-- ==== Sys2Proof/Word.lean ====
section
/-! DEFINITION. The word types of the core: field elements, block bytes and coefficients are 8 bits, every
interface register and command word is 32 bits (R10 of spec/00_scope.md). -/

namespace Sys2Proof

/-- A field element, a coefficient or a block byte (R10). -/
abbrev Byte := BitVec 8

/-- An interface register or a command word (R10). -/
abbrev Word := BitVec 32

end Sys2Proof
end

