-- ==== Sys2Proof/Syntax.lean ====
section
/-! DEFINITION. The commands of the core, one constructor per row of spec/opcode_table.json, with the opcode map
(R116 of spec/30_encoding.md), the three formats (R112-R114) and the assembler mnemonics (R118). -/

namespace Sys2Proof

/-- The three command formats: field scalar, field vector, no immediate operand (R112-R114). -/
inductive Format where
  | F
  | V
  | N
  deriving DecidableEq, Repr

/-- The 20 commands (R116). `a`, `b` and `c` are the operand bytes A, B and C, taken as they stand (R112, R113, R115). -/
inductive Instr where
  | nop
  | clrStatus
  | gfAdd (a b : Byte)
  | gfSub (a b : Byte)
  | gfMul (a b : Byte)
  | gfDiv (a b : Byte)
  | vScale (c : Byte)
  | vAdds (c : Byte)
  | vSubs (c : Byte)
  | vAddmul (c : Byte)
  | vSubmul (c : Byte)
  | cfgEncoder
  | cfgDecoder
  | store
  | decodeGen
  | decodeAll
  | encode
  | flushGen
  | flushAll
  | genQuery
  deriving DecidableEq, Repr

namespace Instr

/-- The opcode, bits 31:24 of the word (R116). -/
def opcode : Instr → Byte
  | nop => 0x00
  | clrStatus => 0x01
  | gfAdd _ _ => 0x10
  | gfSub _ _ => 0x11
  | gfMul _ _ => 0x12
  | gfDiv _ _ => 0x13
  | vScale _ => 0x20
  | vAdds _ => 0x21
  | vSubs _ => 0x22
  | vAddmul _ => 0x23
  | vSubmul _ => 0x24
  | cfgEncoder => 0x30
  | cfgDecoder => 0x31
  | store => 0x40
  | decodeGen => 0x50
  | decodeAll => 0x51
  | encode => 0x60
  | flushGen => 0x70
  | flushAll => 0x71
  | genQuery => 0x80

/-- The format column of R116. -/
def format : Instr → Format
  | gfAdd _ _ | gfSub _ _ | gfMul _ _ | gfDiv _ _ => .F
  | vScale _ | vAdds _ | vSubs _ | vAddmul _ | vSubmul _ => .V
  | nop | clrStatus | cfgEncoder | cfgDecoder | store | decodeGen | decodeAll | encode
  | flushGen | flushAll | genQuery => .N

/-- The operand bits 23:0 of the word, laid out by the format (R112-R114). -/
def operandBits : Instr → BitVec 24
  | gfAdd a b | gfSub a b | gfMul a b | gfDiv a b => (0 : Byte) ++ a ++ b
  | vScale c | vAdds c | vSubs c | vAddmul c | vSubmul c => (0 : Byte) ++ (0 : Byte) ++ c
  | nop | clrStatus | cfgEncoder | cfgDecoder | store | decodeGen | decodeAll | encode
  | flushGen | flushAll | genQuery => 0

/-- The assembler mnemonic of R118 (the operand bytes follow it, written as literals). -/
def mnemonic : Instr → String
  | nop => "nop"
  | clrStatus => "clr.status"
  | gfAdd _ _ => "gf.add"
  | gfSub _ _ => "gf.sub"
  | gfMul _ _ => "gf.mul"
  | gfDiv _ _ => "gf.div"
  | vScale _ => "v.scale"
  | vAdds _ => "v.adds"
  | vSubs _ => "v.subs"
  | vAddmul _ => "v.addmul"
  | vSubmul _ => "v.submul"
  | cfgEncoder => "cfg.enc"
  | cfgDecoder => "cfg.dec"
  | store => "store"
  | decodeGen => "decode.gen"
  | decodeAll => "decode.all"
  | encode => "encode"
  | flushGen => "flush.gen"
  | flushAll => "flush.all"
  | genQuery => "gen.query"

/-- The operand bytes a command is written with, in the order of R118. -/
def operands : Instr → List Byte
  | gfAdd a b | gfSub a b | gfMul a b | gfDiv a b => [a, b]
  | vScale c | vAdds c | vSubs c | vAddmul c | vSubmul c => [c]
  | nop | clrStatus | cfgEncoder | cfgDecoder | store | decodeGen | decodeAll | encode
  | flushGen | flushAll | genQuery => []

end Instr

end Sys2Proof
end

