-- ==== Sys2Proof/WellFormed.lean ====
section
/-! DEFINITION. What makes a command word legal (R117 of spec/30_encoding.md), and what makes an instruction one
that a legal word stands for. -/

namespace Sys2Proof

/-- The bits of a word its format marks "must be 0" (R112-R114). -/
def Format.reservedMask : Format → Word
  | .F => 0x00FF0000
  | .V => 0x00FFFF00
  | .N => 0x00FFFFFF

/-- The format an opcode value selects, none for an unassigned opcode (R116, R117). -/
def formatOfOpcode (op : Byte) : Option Format :=
  if op ∈ [0x10#8, 0x11#8, 0x12#8, 0x13#8] then some .F
  else if op ∈ [0x20#8, 0x21#8, 0x22#8, 0x23#8, 0x24#8] then some .V
  else if op ∈ [0x00#8, 0x01#8, 0x30#8, 0x31#8, 0x40#8, 0x50#8, 0x51#8, 0x60#8, 0x70#8, 0x71#8, 0x80#8] then some .N
  else none

/-- A word is legal if its opcode is assigned and every bit its format marks "must be 0" is 0 (R117). -/
def Word.legal (w : Word) : Bool :=
  match formatOfOpcode (w.extractLsb' 24 8) with
  | none => false
  | some f => w &&& f.reservedMask == 0

/-- An instruction is well formed if the opcode map gives its opcode the format it is written in, and its operand
bits leave that format's "must be 0" bits clear. Operand bytes are field elements by their type, so every
instruction is; what can be ill formed is a word. -/
def Instr.wellFormed (i : Instr) : Bool :=
  formatOfOpcode i.opcode == some i.format && (i.operandBits.setWidth 32 &&& i.format.reservedMask == 0)

end Sys2Proof
end

