-- ==== Sys2Proof/Decode.lean ====
section
/-! DEFINITION. The decoder of the 32-bit command word, total on every word and rejecting by name, and after it the
encoder (R110-R118 of spec/30_encoding.md). -/

namespace Sys2Proof

/-- Why a word is illegal (R117). -/
inductive DecodeError where
  /-- The opcode, bits 31:24, is in no row of R116. -/
  | unassignedOpcode (op : Byte)
  /-- A bit that the command's format marks "must be 0" is 1. -/
  | reservedBits (f : Format)
  deriving DecidableEq, Repr

/-- OP, bits 31:24 (R110). -/
def opField (w : Word) : Byte := w.extractLsb' 24 8

/-- A, bits 15:8 of format F (R112). -/
def aField (w : Word) : Byte := w.extractLsb' 8 8

/-- B of format F and C of format V, bits 7:0 (R112, R113). -/
def bField (w : Word) : Byte := w.extractLsb' 0 8

/-- The command an opcode value selects, with the operand bytes `a` (bits 15:8) and `b` (bits 7:0); none for an
unassigned opcode (R116). -/
def selectCommand (op a b : Byte) : Option Instr :=
  match op.toNat with
  | 0x00 => some .nop
  | 0x01 => some .clrStatus
  | 0x10 => some (.gfAdd a b)
  | 0x11 => some (.gfSub a b)
  | 0x12 => some (.gfMul a b)
  | 0x13 => some (.gfDiv a b)
  | 0x20 => some (.vScale b)
  | 0x21 => some (.vAdds b)
  | 0x22 => some (.vSubs b)
  | 0x23 => some (.vAddmul b)
  | 0x24 => some (.vSubmul b)
  | 0x30 => some .cfgEncoder
  | 0x31 => some .cfgDecoder
  | 0x40 => some .store
  | 0x50 => some .decodeGen
  | 0x51 => some .decodeAll
  | 0x60 => some .encode
  | 0x70 => some .flushGen
  | 0x71 => some .flushAll
  | 0x80 => some .genQuery
  | _ => none

/-- The decoder: it selects the command from bits 31:24 and then checks the format's reserved bits (R110, R117). -/
def decode (w : Word) : Except DecodeError Instr :=
  match selectCommand (opField w) (aField w) (bField w) with
  | none => .error (.unassignedOpcode (opField w))
  | some i => if w &&& i.format.reservedMask = 0 then .ok i else .error (.reservedBits i.format)

/-- The word of an instruction: the opcode in bits 31:24, the operand bits of its format below (R110, R118). -/
def encode (i : Instr) : Word := i.opcode ++ i.operandBits

/-- What the decoder reads from a word given as a number of `nbits` bits. Every command is exactly one 32-bit
word (R110), so a number with a bit above 31 is no command word. -/
def decodeTableWord (nbits w : Nat) : Option Instr :=
  if w % 2 ^ nbits < 2 ^ 32 then (decode (BitVec.ofNat 32 (w % 2 ^ nbits))).toOption else none

end Sys2Proof
end

