-- ==== Sys2Proof/Config.lean ====
section
/-! DEFINITION. What one implementation of the core fixes (R8, R9 of spec/00_scope.md), the identification
constants (R3), and the free values the spec leaves open. -/

namespace Sys2Proof.Config

/-- The parameters of one implementation: the reduction polynomial (R8) and the capacities (R9). The machine
carries them in its state, because the CAP_* registers report them (R31); no step changes them. -/
structure Params where
  /-- GF_POLY, bit k the coefficient of x^k (R8). -/
  gfPoly : BitVec 9
  /-- MAX_BLOCK_SIZE (R9). -/
  maxBlockSize : Nat
  /-- MAX_GEN_BLOCKS (R9). -/
  maxGenBlocks : Nat
  /-- MAX_GENERATIONS (R9). -/
  maxGenerations : Nat
  /-- MAX_BUFFER (R9). -/
  maxBuffer : Nat
  deriving DecidableEq, Repr

/-- The 16 legal values of GF_POLY: the irreducible polynomials of degree 8 under which 3 generates the
multiplicative group (R8). -/
def legalPolys : List (BitVec 9) :=
  [0x11B, 0x139, 0x13F, 0x14D, 0x15F, 0x163, 0x165, 0x169,
   0x177, 0x18D, 0x19F, 0x1A3, 0x1A9, 0x1C3, 0x1F5, 0x1F9]

/-- The legal ranges of R8 and R9. -/
abbrev Params.Legal (p : Params) : Prop :=
  p.gfPoly ∈ legalPolys ∧
  (1 ≤ p.maxBlockSize ∧ p.maxBlockSize ≤ 2 ^ 24) ∧
  (1 ≤ p.maxGenBlocks ∧ p.maxGenBlocks ≤ 2 ^ 16) ∧
  (1 ≤ p.maxGenerations ∧ p.maxGenerations ≤ 2 ^ 32 - 1) ∧
  (1 ≤ p.maxBuffer ∧ p.maxBuffer ≤ 2 ^ 31)

/-- The reference values of R9 and the GF_POLY of this hardware (R8). -/
def reference : Params where
  gfPoly := 0x11B
  maxBlockSize := 4096
  maxGenBlocks := 256
  maxGenerations := 4096
  maxBuffer := 0x100000

/-- The generator of the multiplicative group (R7). -/
def generator : Byte := 3

/-- The ID register, ASCII "BLKY" (R3). -/
def idValue : Word := 0x424C4B59

/-- The VERSION register (R3). -/
def versionValue : Word := 0x00000007

/-- FREE VALUE. `log[0]`, which no rule reads (R150). -/
opaque freeLogZero : Byte

/-- FREE VALUE. The entries 510 and 511 of the antilog table, which no rule reads (R151). -/
opaque freeAntilog : Nat → Byte

/-- FREE VALUE. The nonzero coefficients the external source yields once its queued bytes are used up, as
`value - 1`, indexed by the count of free coefficients drawn before (R292 allows a model to take nonzero draws). -/
opaque freeCoeff : Nat → Fin 255

end Sys2Proof.Config
end

