-- ==== Sys2Proof/Machine/Field.lean ====
section
/-! DEFINITION. The GF(2^8) field unit: the log and antilog tables, gf_mul, gf_div and the row operations the other
units share (spec/40_field_scalar.md R150-R153, spec/41_field_vector.md R189). Every function takes GF_POLY `p`. -/

namespace Sys2Proof.Machine

/-- Multiplication by x modulo GF_POLY; bit k of a byte is the coefficient of x^k (R152). -/
def xtime (p : BitVec 9) (x : Byte) : Byte :=
  if x.getLsbD 7 then (x <<< 1) ^^^ p.setWidth 8 else x <<< 1

/-- Multiplication by the generator 3, that is by x + 1 (R7). -/
def mulGen (p : BitVec 9) (x : Byte) : Byte := xtime p x ^^^ x

/-- 3^e in the field (R150, R151). -/
def genPow (p : BitVec 9) : Nat → Byte
  | 0 => 1
  | e + 1 => mulGen p (genPow p e)

/-- The first exponent from `e` on whose power is `x`, where `y` is 3^e, looking at most `fuel` exponents further. -/
def findLog (p : BitVec 9) (x : Byte) : (fuel e : Nat) → (y : Byte) → Nat
  | 0, e, _ => e
  | fuel + 1, e, y => if y = x then e else findLog p x fuel (e + 1) (mulGen p y)

/-- The log table: the e in 0..254 with 3^e = x (R150); entry 0 is a free value (log 8). -/
def gfLog (p : BitVec 9) (x : Byte) : Nat :=
  if x = 0 then Config.freeLogZero.toNat else findLog p x 254 0 1

/-- The antilog table: entry i is 3^(i mod 255) for i up to 509 (R151); the entries after are free values (log 8). -/
def gfAntilog (p : BitVec 9) (i : Nat) : Byte :=
  if i ≤ 509 then genPow p (i % 255) else Config.freeAntilog i

/-- gf_mul (R152). -/
def gfMul (p : BitVec 9) (x y : Byte) : Byte :=
  if x = 0 ∨ y = 0 then 0 else gfAntilog p (gfLog p x + gfLog p y)

/-- gf_div; division by 0 is 0 (R153). `log[x] - log[y] + 255` is formed as `log[x] + 255 - log[y]`, on naturals. -/
def gfDiv (p : BitVec 9) (x y : Byte) : Byte :=
  if x = 0 ∨ y = 0 then 0 else gfAntilog p (gfLog p x + 255 - gfLog p y)

/-- gf_add and gf_sub are bitwise XOR (R13). -/
def gfAdd (x y : Byte) : Byte := x ^^^ y

/-- `D[j] <- D[j] ⊕ gf_mul(c, S[j])` for every j of the row's length (R189). -/
def rowAddmul (p : BitVec 9) (c : Byte) (d s : List Byte) : List Byte :=
  List.zipWith (fun x y => gfAdd x (gfMul p c y)) d s

/-- `D[j] <- gf_div(D[j], d)` for every j of the row's length (R189). -/
def rowDiv (p : BitVec 9) (row : List Byte) (d : Byte) : List Byte :=
  row.map (fun x => gfDiv p x d)

end Sys2Proof.Machine
end

