-- ==== Sys2Proof/Machine/State.lean ====
section
/-! DEFINITION. The state of the machine as plain data: the interface registers, the session with its generation
state, the three memories, the flush wait, and the other agents' pending moves (spec/10_state.md, R22, R80), its
faults and refusals, and the state after reset (R370 of spec/70_reset_and_hazards.md). -/

namespace Sys2Proof.Machine

open Sys2Proof.Config (Params)

/-- A byte memory: cells of strictly rising address, none of which holds what an unlisted address reads as. -/
abbrev Memory := List Host.Cell

/-- What an address no cell lists reads as. DESIGN CHOICE, unsafe (log 2): the spec gives no contents after
reset (I5); every reset turn carries the contents as an input, and State.reset lists nothing. -/
abbrev Memory.unlisted : Byte := 0x00

/-- The canonical form of a memory. -/
abbrev Memory.wf (m : Memory) : Bool :=
  decide (m.Pairwise (fun c d => c.1 < d.1)) && m.all (fun c => c.2 != Memory.unlisted)

/-- Every cell lies below `size`. -/
abbrev Memory.within (size : Nat) (m : Memory) : Bool :=
  m.all (fun c => decide (c.1 < size))

/-- The three memories with a host address (R80). -/
inductive Space where
  | cstg
  | dstg
  | blk
  deriving DecidableEq, Repr

/-- The STATUS register by its fields (R33); the bits no field names read 0. -/
structure Status where
  busy : Bool
  result : Bool
  err : BitVec 4
  errAny : Bool
  ovr : Bool
  flushReq : Bool
  deriving DecidableEq, Repr

/-- SESSION.MODE (R38). -/
inductive Mode where
  | encoder
  | decoder
  deriving DecidableEq, Repr

/-- A coefficient matrix by rows (R43). -/
abbrev Matrix := List (List Byte)

/-- The state of one generation (R41-R43); its block count is a function of the geometry (R40). -/
structure Gen where
  rank : Nat
  decoded : Bool
  matrix : Matrix
  deriving DecidableEq, Repr

/-- The active session: the values captured at its configuration and one `Gen` for each generation (R50). -/
structure Session where
  mode : Mode
  blockSize : Nat
  blocksPerGen : Nat
  dataLength : Nat
  gens : List Gen
  deriving DecidableEq, Repr

/-- A flush command that waits in a handshake (R51): the generation being flushed, and for FLUSH_ALL the running
result. The next generation of FLUSH_ALL is the one after `g`. -/
inductive FlushCmd where
  | gen (g : Nat)
  | all (g : Nat) (ok : Bool)
  deriving DecidableEq, Repr

/-- What the core is in the middle of between two steps (R51, R381, R384). -/
inductive Activity where
  /-- No command is in flight. -/
  | idle
  /-- A flush request is pending; only a FLUSH_ACK write ends this (R314). -/
  | flushWait (f : FlushCmd)
  /-- The request was answered with `v`; the core's continuing step is to come (R381 item 3). -/
  | flushAcked (f : FlushCmd) (v : Word)
  /-- An ENCODE whose coefficient source never yields a nonzero byte again; only reset ends this (R384 item 2). -/
  | drawWait
  deriving DecidableEq, Repr

/-- The coefficient source (R292): the bytes it will yield first, whether it is dead once they are used up (it then
never yields a nonzero byte), and how many free nonzero values it has yielded. Model's own form (log 3). -/
structure CoeffSource where
  queued : List Byte
  dead : Bool
  drawn : Nat
  deriving DecidableEq, Repr

/-- One statement of a host program (R119); addresses are the host's 32-bit byte addresses (R81). -/
inductive HostStmt where
  | w32 (addr v : Word)
  | w8 (addr : Word) (v : Byte)
  | r32 (addr : Word)
  | r8 (addr : Word)
  | wait
  deriving DecidableEq, Repr

/-- Memory contents the platform may leave after a reset, one free byte per address (R370, I5): cells in any order,
a later one for the same address counting. -/
structure Contents where
  blk : List Host.Cell
  dstg : List Host.Cell
  cstg : List Host.Cell
  deriving DecidableEq, Repr

/-- Who moves: the host, the provider, the core, or the platform with a reset (R22, R360, R370). -/
inductive Turn where
  | host
  | provider
  | core
  | reset (c : Contents)
  deriving DecidableEq, Repr

/-- The state. The registers of R31 that are functions of others (SESSION, the session registers of R39, ID, VERSION)
are computed on each read and have no field. -/
structure State where
  /-- GF_POLY and the capacities, reported by the CAP_* registers (R8, R9, R31). -/
  params : Params
  /-- CTRL, bit 0 FLUSH_HS (R32). -/
  ctrl : Word
  /-- CMD, the last accepted command word (R31, R51). -/
  cmd : Word
  /-- STATUS (R33). -/
  status : Status
  /-- RESULT (R34). -/
  result : Word
  /-- IO_CODE (R35). -/
  ioCode : Word
  /-- ARG0, ARG1, ARG2 (R36). -/
  arg0 : Word
  arg1 : Word
  arg2 : Word
  /-- CFG_BLOCK_SIZE, CFG_BLOCKS_PER_GEN, CFG_DATA_LENGTH (R37). -/
  cfgBlockSize : Word
  cfgBlocksPerGen : Word
  cfgDataLength : Word
  /-- PKT_GEN, PKT_NUM_BLOCKS, PKT_BLOCK_SIZE (R46). -/
  pktGen : Word
  pktNumBlocks : Word
  pktBlockSize : Word
  /-- Q_GEN, Q_NUM_BLOCKS, Q_RANK, Q_FLAGS (R47). -/
  qGen : Word
  qNumBlocks : Word
  qRank : Word
  qFlags : Word
  /-- FL_GEN, FL_START, FL_LENGTH, FL_VALID (R48). -/
  flGen : Word
  flStart : Word
  flLength : Word
  flValid : Word
  /-- The active session; `none` is SESSION.CONFIGURED = 0 (R38, R50). -/
  session : Option Session
  /-- BLK, DSTG, CSTG (R80). -/
  blk : Memory
  dstg : Memory
  cstg : Memory
  /-- The flush wait (R51) or the hang of R384. -/
  activity : Activity
  /-- The coefficient source (R292). Model's own field (log 3). -/
  coeffs : CoeffSource
  /-- The host statements still to be executed (R119). Model's own field (log 5). -/
  host : List HostStmt
  /-- The values the provider will write to FLUSH_ACK (R314). Model's own field (log 4). -/
  provider : List Word
  /-- Who moves in the next steps; with this list empty the default order applies. Model's own field (log 4). -/
  turns : List Turn
  /-- The values the host has read, the latest first (R119). Model's own field (log 11). -/
  reads : List Word
  deriving DecidableEq, Repr

/-- Why a host access is a bus error (R84). -/
inductive BusError where
  /-- Its address is in no mapped range (R81). -/
  | unmapped
  /-- It is an undefined offset of the register window (R31). -/
  | undefinedRegister
  /-- It is a 32-bit access at an address that is no multiple of 4. -/
  | misaligned
  /-- It is an 8-bit access to the register window. -/
  | narrowRegister
  /-- It is a 32-bit access whose four bytes do not all lie in one mapped range. -/
  | straddling
  deriving DecidableEq, Repr

/-- The faults of a host step. The core itself never faults: its errors are completions (R349). -/
inductive Fault where
  /-- Raised by a host access that is a bus error (R84, R343). Safe: the spec makes it a fault of the run. -/
  | busError (why : BusError)
  /-- Raised by a host write other than to CMD and FLUSH_ACK while BUSY = 1 (R380, I11). Safe: the spec leaves the
  hardware's behaviour unspecified and makes it a fault of the run. -/
  | busyHazard
  deriving DecidableEq, Repr

/-- The refusals. -/
inductive Refusal where
  /-- Raised by an arm of `exec` whose instruction has no meaning yet; no arm raises it. Safe. -/
  | notModelled (mnemonic : String)
  deriving DecidableEq, Repr

/-- What a command or a host step answers. -/
abbrev Result := Host.Outcome State Fault Refusal

/-- STATUS after reset, 0x00000000 (R370). -/
def Status.reset : Status where
  busy := false
  result := false
  err := 0
  errAny := false
  ovr := false
  flushReq := false

/-- The machine after reset with the reference parameters (R370, the reset column of R31). Memory lists nothing (log
2); the other agents have nothing pending (log 3, log 4, log 5). -/
def State.reset : State where
  params := Config.reference
  ctrl := 0
  cmd := 0
  status := Status.reset
  result := 0
  ioCode := 0
  arg0 := 0
  arg1 := 0
  arg2 := 0
  cfgBlockSize := 0
  cfgBlocksPerGen := 0
  cfgDataLength := 0
  pktGen := 0
  pktNumBlocks := 0
  pktBlockSize := 0
  qGen := 0
  qNumBlocks := 0
  qRank := 0
  qFlags := 0
  flGen := 0
  flStart := 0
  flLength := 0
  flValid := 0
  session := none
  blk := []
  dstg := []
  cstg := []
  activity := .idle
  coeffs := { queued := [], dead := false, drawn := 0 }
  host := []
  provider := []
  turns := []
  reads := []

end Sys2Proof.Machine
end

