-- ==== Sys2Proof/Machine/Partition.lean ====
section
/-! DEFINITION. The partition arithmetic of a session and the functions of the session state (spec/42_session_config.md
R210, R211; spec/10_state.md R38-R40, R45; spec/46_flush_query.md R312). -/

namespace Sys2Proof.Machine

/-- `ceil_div` (R12). -/
def ceilDiv (a b : Nat) : Nat := (a + b - 1) / b

/-- `numBlocks` (R210). -/
def numBlocksOf (bs len : Nat) : Nat := ceilDiv len bs

/-- `numGenerations` (R210). -/
def numGenerationsOf (bs bpg len : Nat) : Nat := ceilDiv (numBlocksOf bs len) bpg

/-- `bufferSize` (R210). -/
def bufferSizeOf (bs len : Nat) : Nat := numBlocksOf bs len * bs

/-- n[g] of the geometry (R40, R211). -/
def genBlocksOf (bs bpg len g : Nat) : Nat :=
  if g + 1 < numGenerationsOf bs bpg len then bpg
  else numBlocksOf bs len - bpg * (numGenerationsOf bs bpg len - 1)

namespace Session

def numBlocks (ses : Session) : Nat := numBlocksOf ses.blockSize ses.dataLength

def numGenerations (ses : Session) : Nat := numGenerationsOf ses.blockSize ses.blocksPerGen ses.dataLength

def bufferSize (ses : Session) : Nat := bufferSizeOf ses.blockSize ses.dataLength

/-- `partialLastBlock` (R210). -/
def partialLastBlock (ses : Session) : Bool := ses.dataLength % ses.blockSize != 0

/-- `partialLastGeneration` (R210). -/
def partialLastGen (ses : Session) : Bool := ses.numBlocks % ses.blocksPerGen != 0

/-- n[g] (R40). -/
def blocksOf (ses : Session) (g : Nat) : Nat := genBlocksOf ses.blockSize ses.blocksPerGen ses.dataLength g

/-- The state of generation g. A generation the session does not hold answers an empty one (log 17). -/
def gen (ses : Session) (g : Nat) : Gen := ses.gens.getD g { rank := 0, decoded := false, matrix := [] }

/-- The session with generation g replaced. -/
def setGen (ses : Session) (g : Nat) (x : Gen) : Session := { ses with gens := ses.gens.set g x }

/-- rank[g] == n[g], the "can-decode" predicate (R20, C7). -/
def complete (ses : Session) (g : Nat) : Bool := (ses.gen g).rank == ses.blocksOf g

/-- GENS_COMPLETED: the number of g with rank[g] == n[g] (R39). -/
def gensCompleted (ses : Session) : Nat := (List.range ses.numGenerations).countP ses.complete

/-- SESSION.CAN_DECODE (R38). -/
def canDecode (ses : Session) : Bool := ses.gensCompleted == ses.numGenerations

/-- SESSION.ALL_DECODED (R38). -/
def allDecoded (ses : Session) : Bool := (List.range ses.numGenerations).all (fun g => (ses.gen g).decoded)

/-- The first BLK offset of block slot `blocksPerGeneration*g + i`, where row i of generation g lives (R45). -/
def slotOffset (ses : Session) (g i : Nat) : Nat := (ses.blocksPerGen * g + i) * ses.blockSize

/-- The first byte of generation g's range (R312). -/
def flushStart (ses : Session) (g : Nat) : Nat := g * ses.blocksPerGen * ses.blockSize

/-- The length of generation g's range (R312). -/
def flushLength (ses : Session) (g : Nat) : Nat := ses.blocksOf g * ses.blockSize

/-- How many bytes of generation g's range are real data (R312). -/
def flushValid (ses : Session) (g : Nat) : Nat :=
  min (ses.flushStart g + ses.flushLength g) ses.dataLength - ses.flushStart g

end Session

end Sys2Proof.Machine
end

