-- ==== Sys2Proof/Machine/Flags.lean ====
section
/-! DEFINITION. The flag words: STATUS (R33), the error codes (R340), SESSION (R38), Q_FLAGS (R47) and CTRL (R32). -/

namespace Sys2Proof.Machine

/-- The errors a command can raise (R340). Of the `info` of a raise, CMD holds the word of ILLEGAL_CMD and IO_CODE
the value of IO_FAIL; that of RANGE is not stored (R344). -/
inductive Err where
  | illegalCmd
  | notConfigured
  | badConfig
  | range
  | ioFail
  deriving DecidableEq, Repr

/-- code(E) (R340). -/
def Err.code : Err → BitVec 4
  | .illegalCmd => 1
  | .notConfigured => 2
  | .badConfig => 3
  | .range => 4
  | .ioFail => 5

/-- STATUS as it reads: FLUSH_REQ 10, OVR 9, ERR_ANY 8, ERR 7:4, RESULT 1, BUSY 0, the others 0 (R33). -/
def Status.toWord (t : Status) : Word :=
  (0 : BitVec 21) ++ BitVec.ofBool t.flushReq ++ BitVec.ofBool t.ovr ++ BitVec.ofBool t.errAny ++ t.err
    ++ (0 : BitVec 2) ++ BitVec.ofBool t.result ++ BitVec.ofBool t.busy

/-- STATUS after `finish(b)` (R17). -/
def Status.finished (b : Bool) (t : Status) : Status :=
  { t with result := b, err := 0, busy := false }

/-- STATUS after `raise E` (R17, R340). -/
def Status.raised (e : Err) (t : Status) : Status :=
  { t with result := false, err := e.code, errAny := true, busy := false }

/-- SESSION of an active session: ALL_DECODED 5, CAN_DECODE 4, PARTIAL_LAST_GEN 3, PARTIAL_LAST_BLOCK 2, MODE 1,
CONFIGURED 0 (R38). -/
def Session.toWord (ses : Session) : Word :=
  (0 : BitVec 26) ++ BitVec.ofBool ses.allDecoded ++ BitVec.ofBool ses.canDecode
    ++ BitVec.ofBool ses.partialLastGen ++ BitVec.ofBool ses.partialLastBlock
    ++ BitVec.ofBool (ses.mode == .encoder) ++ BitVec.ofBool true

/-- Q_FLAGS of generation g: bit 1 DECODED, bit 0 CAN_DECODE_GEN (R47, R320). -/
def Session.queryFlags (ses : Session) (g : Nat) : Word :=
  (0 : BitVec 30) ++ BitVec.ofBool (ses.gen g).decoded ++ BitVec.ofBool (ses.complete g)

/-- CTRL.FLUSH_HS, bit 0 (R32). -/
def State.flushHs (s : State) : Bool := s.ctrl.getLsbD 0

/-- The bits of CTRL a write changes; the others read 0 (R32). -/
def ctrlMask : Word := 0x00000001

end Sys2Proof.Machine
end

