-- ==== Sys2Proof/Machine/Ops.lean ====
section
/-! DEFINITION. The named operations the meanings share: bytes of memory (R15), the completion of a command by `finish`
or `raise` (R17, R340, R349), the state updates each command makes, and reset (R370). -/

namespace Sys2Proof.Machine

/-! ### Bytes of memory -/

namespace Memory

/-- The byte at offset `a`. -/
def read : Memory → Nat → Byte
  | [], _ => unlisted
  | (b, v) :: rest, a => if b = a then v else read rest a

/-- The memory with the byte at offset `a` replaced, in canonical form. -/
def write : Memory → Nat → Byte → Memory
  | [], a, v => if v = unlisted then [] else [(a, v)]
  | (b, w) :: rest, a, v =>
    if a < b then (if v = unlisted then (b, w) :: rest else (a, v) :: (b, w) :: rest)
    else if a = b then (if v = unlisted then rest else (a, v) :: rest)
    else (b, w) :: write rest a v

/-- MemRead(S, a, n) (R15). -/
def readBytes (m : Memory) : (a n : Nat) → List Byte
  | _, 0 => []
  | a, n + 1 => m.read a :: readBytes m (a + 1) n

/-- MemWrite(S, a, n, v), where n is the length of v (R15). -/
def writeBytes : Memory → Nat → List Byte → Memory
  | m, _, [] => m
  | m, a, v :: vs => writeBytes (m.write a v) (a + 1) vs

/-- Offsets `lo .. hi-1` set to 0x00 (R214, R215). A byte that reads 0x00 is an unlisted one, so the cells of the
range go. -/
def zeroFill (m : Memory) (lo hi : Nat) : Memory :=
  m.filter (fun c => decide (c.1 < lo ∨ hi ≤ c.1))

/-- For i = 0 .. n-1 in ascending order, `dst[i] <- f(dst[i])` (R182). -/
def mapBytes (f : Byte → Byte) : Memory → (dst n : Nat) → Memory
  | m, _, 0 => m
  | m, dst, n + 1 => mapBytes f (m.write dst (f (m.read dst))) (dst + 1) n

/-- For i = 0 .. n-1 in ascending order, `dst[i] <- f(dst[i], src[i])`, each read seeing the writes before it (R182). -/
def zipBytes (f : Byte → Byte → Byte) : Memory → (dst src n : Nat) → Memory
  | m, _, _, 0 => m
  | m, dst, src, n + 1 => zipBytes f (m.write dst (f (m.read dst) (m.read src))) (dst + 1) (src + 1) n

/-- The memory of `size` bytes with the given contents; a cell beyond it is no byte of the memory. -/
def ofCells (size : Nat) (cells : List Host.Cell) : Memory :=
  cells.foldl (fun m c => if c.1 < size then m.write c.1 c.2 else m) []

end Memory

/-! ### Completion of a command -/

/-- `finish(b)` (R17). -/
def State.finish (b : Bool) (s : State) : State := { s with status := s.status.finished b }

/-- `raise E`, the one way a command ends with an error (R17, R340). There is no handler to enter and nothing to
return to: a raise writes STATUS and ends the command (R349, R350). -/
def State.raise (e : Err) (s : State) : State := { s with status := s.status.raised e }

/-- The command's rule where a session is active, and NOT_CONFIGURED where none is (R342). -/
def State.withSession (s : State) (k : Session → State) : State :=
  match s.session with
  | none => s.raise .notConfigured
  | some ses => k ses

/-! ### The updates commands make -/

/-- RESULT <- zext_32(r) (R34). -/
def State.setResult (r : Byte) (s : State) : State := { s with result := r.setWidth 32 }

def State.setBlk (m : Memory) (s : State) : State := { s with blk := m }

/-- A change of the active session and of BLK. -/
def State.setSession (ses : Session) (m : Memory) (s : State) : State := { s with session := some ses, blk := m }

/-- ERR_ANY and OVR cleared (R322). -/
def State.clearSticky (s : State) : State :=
  { s with status := { s.status with errAny := false, ovr := false } }

/-- The packet header registers (R46, R290). -/
def State.setHeader (g n bs : Nat) (s : State) : State :=
  { s with pktGen := BitVec.ofNat 32 g, pktNumBlocks := BitVec.ofNat 32 n, pktBlockSize := BitVec.ofNat 32 bs }

/-- DSTG and CSTG from offset 0 on (R291). -/
def State.setStaging (data coeffs : List Byte) (s : State) : State :=
  { s with dstg := s.dstg.writeBytes 0 data, cstg := s.cstg.writeBytes 0 coeffs }

/-- The coefficient source after some draws (R292). -/
def State.setCoeffs (c : CoeffSource) (s : State) : State := { s with coeffs := c }

/-- An ENCODE that never completes: BUSY stays 1 (R295, R384 item 2). -/
def State.hang (s : State) : State :=
  { s with status := { s.status with busy := true }, activity := .drawWait }

/-- The query registers for generation g (R320). -/
def State.setQuery (ses : Session) (g : Nat) (s : State) : State :=
  { s with
    qGen := BitVec.ofNat 32 g
    qNumBlocks := BitVec.ofNat 32 (ses.blocksOf g)
    qRank := BitVec.ofNat 32 (ses.gen g).rank
    qFlags := ses.queryFlags g }

/-- The flush request for generation g: FL_*, FLUSH_REQ <- 1, and the wait, with BUSY at 1 throughout (R314). -/
def State.requestFlush (ses : Session) (f : FlushCmd) (g : Nat) (s : State) : State :=
  { s with
    flGen := BitVec.ofNat 32 g
    flStart := BitVec.ofNat 32 (ses.flushStart g)
    flLength := BitVec.ofNat 32 (ses.flushLength g)
    flValid := BitVec.ofNat 32 (ses.flushValid g)
    status := { s.status with flushReq := true, busy := true }
    activity := .flushWait f }

/-- The core's part of a command word that is accepted: CMD reads it back and BUSY is 1 (R111). -/
def State.accept (w : Word) (s : State) : State :=
  { s with cmd := w, status := { s.status with busy := true } }

/-- A command word that is dropped: OVR <- 1, nothing else (R111). -/
def State.drop (s : State) : State := { s with status := { s.status with ovr := true } }

/-! ### Memories by space, and reset -/

def State.space (s : State) : Space → Memory
  | .cstg => s.cstg
  | .dstg => s.dstg
  | .blk => s.blk

def State.setSpace (sp : Space) (m : Memory) (s : State) : State :=
  match sp with
  | .cstg => { s with cstg := m }
  | .dstg => { s with dstg := m }
  | .blk => { s with blk := m }

/-- Reset (R370): every register, the session and the flush wait as after power-on, the memories with the contents
given, one free byte per address. It does not touch the parameters, the coefficient source or the other agents (DEDUCED, log 18). -/
def State.afterReset (c : Contents) (s : State) : State :=
  { State.reset with
    params := s.params
    blk := Memory.ofCells s.params.maxBuffer c.blk
    dstg := Memory.ofCells s.params.maxBlockSize c.dstg
    cstg := Memory.ofCells s.params.maxGenBlocks c.cstg
    coeffs := s.coeffs
    host := s.host
    provider := s.provider
    turns := s.turns
    reads := s.reads }

end Sys2Proof.Machine
end

