-- ==== Sys2Proof/Machine/Operands.lean ====
section
/-! DEFINITION. The operand forms (R113-R115 of spec/30_encoding.md): vector operands, generation index, configuration
arguments, the staged packet, block slots, and rows and entries of matrices (R16). -/

namespace Sys2Proof.Machine

/-! ### Operand registers, as unbounded naturals -/

/-- dst, the BLK offset of the destination vector (R113). -/
def State.vecDst (s : State) : Nat := s.arg0.toNat

/-- src, the BLK offset of the source vector, read by V_ADDMUL and V_SUBMUL only (R113). -/
def State.vecSrc (s : State) : Nat := s.arg1.toNat

/-- n, the vector length in bytes (R113). -/
def State.vecLen (s : State) : Nat := s.arg2.toNat

/-- The generation index of DECODE_GEN, ENCODE, FLUSH_GEN and GEN_QUERY (R114). -/
def State.genIndex (s : State) : Nat := s.arg0.toNat

/-- The range check on dst (R180). -/
def State.dstInRange (s : State) : Bool := decide (s.vecDst + s.vecLen ≤ s.params.maxBuffer)

/-- The range check on src (R180). -/
def State.srcInRange (s : State) : Bool := decide (s.vecSrc + s.vecLen ≤ s.params.maxBuffer)

/-! ### The staged packet -/

/-- The packet's data, DSTG[0 .. n-1] (R82). -/
def State.packetData (s : State) (n : Nat) : List Byte := s.dstg.readBytes 0 n

/-- The packet's coefficients, CSTG[0 .. n-1] (R82). -/
def State.packetCoeffs (s : State) (n : Nat) : List Byte := s.cstg.readBytes 0 n

/-! ### Block slots -/

/-- Blk(g, i) (R16). -/
def Session.readBlk (ses : Session) (m : Memory) (g i : Nat) : List Byte :=
  m.readBytes (ses.slotOffset g i) ses.blockSize

/-- Blk(g, i) <- v (R16). -/
def Session.writeBlk (ses : Session) (m : Memory) (g i : Nat) (v : List Byte) : Memory :=
  m.writeBytes (ses.slotOffset g i) v

/-! ### Matrices -/

namespace Matrix

/-- Row i. -/
def row (a : Matrix) (i : Nat) : List Byte := a.getD i []

/-- The byte at row i, column j (R16). -/
def entry (a : Matrix) (i j : Nat) : Byte := (row a i).getD j 0

/-- The identity matrix of size n (R214, R272). -/
def identity (n : Nat) : Matrix :=
  (List.range n).map (fun i => (List.range n).map (fun j => if i = j then 1 else 0))

/-- The all-zero n x n matrix (R215). -/
def zero (n : Nat) : Matrix := List.replicate n (List.replicate n 0)

end Matrix

end Sys2Proof.Machine
end

