-- ==== Sys2Proof/Machine/Registers.lean ====
section
/-! DEFINITION. The register window: the registers of R31 (spec/10_state.md), their offsets and access types, what each
reads as, and what a plain write to each does. -/

namespace Sys2Proof.Machine

/-- The interface registers (R31). -/
inductive Reg where
  | id
  | version
  | capMaxBlockSize
  | capMaxGenBlocks
  | capMaxGenerations
  | capMaxBuffer
  | capGf
  | ctrl
  | cmd
  | status
  | result
  | ioCode
  | arg0
  | arg1
  | arg2
  | cfgBlockSize
  | cfgBlocksPerGen
  | cfgDataLength
  | session
  | blockSize
  | blocksPerGen
  | dataLength
  | numBlocks
  | numGenerations
  | bufferSize
  | gensCompleted
  | lastGenBlocks
  | pktGen
  | pktNumBlocks
  | pktBlockSize
  | qGen
  | qNumBlocks
  | qRank
  | qFlags
  | flGen
  | flStart
  | flLength
  | flValid
  | flushAck
  deriving DecidableEq, Repr

/-- The access types of R31. -/
inductive Access where
  | RO
  | RW
  | WO
  deriving DecidableEq, Repr

namespace Reg

/-- The byte offset in the register window (R31). -/
def offset : Reg → Nat
  | id => 0x000
  | version => 0x004
  | capMaxBlockSize => 0x008
  | capMaxGenBlocks => 0x00C
  | capMaxGenerations => 0x010
  | capMaxBuffer => 0x014
  | capGf => 0x018
  | ctrl => 0x01C
  | cmd => 0x020
  | status => 0x024
  | result => 0x028
  | ioCode => 0x02C
  | arg0 => 0x030
  | arg1 => 0x034
  | arg2 => 0x038
  | cfgBlockSize => 0x040
  | cfgBlocksPerGen => 0x044
  | cfgDataLength => 0x048
  | session => 0x050
  | blockSize => 0x054
  | blocksPerGen => 0x058
  | dataLength => 0x05C
  | numBlocks => 0x060
  | numGenerations => 0x064
  | bufferSize => 0x068
  | gensCompleted => 0x06C
  | lastGenBlocks => 0x070
  | pktGen => 0x080
  | pktNumBlocks => 0x084
  | pktBlockSize => 0x088
  | qGen => 0x090
  | qNumBlocks => 0x094
  | qRank => 0x098
  | qFlags => 0x09C
  | flGen => 0x0A0
  | flStart => 0x0A4
  | flLength => 0x0A8
  | flValid => 0x0AC
  | flushAck => 0x0B0

/-- The access column of R31. -/
def access : Reg → Access
  | id => .RO
  | version => .RO
  | capMaxBlockSize => .RO
  | capMaxGenBlocks => .RO
  | capMaxGenerations => .RO
  | capMaxBuffer => .RO
  | capGf => .RO
  | ctrl => .RW
  | cmd => .RW
  | status => .RO
  | result => .RO
  | ioCode => .RO
  | arg0 => .RW
  | arg1 => .RW
  | arg2 => .RW
  | cfgBlockSize => .RW
  | cfgBlocksPerGen => .RW
  | cfgDataLength => .RW
  | session => .RO
  | blockSize => .RO
  | blocksPerGen => .RO
  | dataLength => .RO
  | numBlocks => .RO
  | numGenerations => .RO
  | bufferSize => .RO
  | gensCompleted => .RO
  | lastGenBlocks => .RO
  | pktGen => .RW
  | pktNumBlocks => .RW
  | pktBlockSize => .RW
  | qGen => .RO
  | qNumBlocks => .RO
  | qRank => .RO
  | qFlags => .RO
  | flGen => .RO
  | flStart => .RO
  | flLength => .RO
  | flValid => .RO
  | flushAck => .WO

/-- Every register, in the order of R31. -/
def all : List Reg :=
  [id, version, capMaxBlockSize, capMaxGenBlocks, capMaxGenerations, capMaxBuffer, capGf, ctrl,
   cmd, status, result, ioCode, arg0, arg1, arg2, cfgBlockSize,
   cfgBlocksPerGen, cfgDataLength, session, blockSize, blocksPerGen, dataLength, numBlocks, numGenerations,
   bufferSize, gensCompleted, lastGenBlocks, pktGen, pktNumBlocks, pktBlockSize, qGen, qNumBlocks,
   qRank, qFlags, flGen, flStart, flLength, flValid, flushAck]

/-- The register at an offset; none for an undefined one (R31, R84). -/
def ofOffset (o : Nat) : Option Reg := all.find? (fun r => r.offset == o)

end Reg

/-- CAP_GF: {0x00, 0x03, 7'b0, GF_POLY[8:0]} (R31). -/
def capGfWord (p : Config.Params) : Word := (0 : Byte) ++ Config.generator ++ (0 : BitVec 7) ++ p.gfPoly

/-- A register that is a function of the session state, 0 while no session is active (R38, R39). -/
def State.sessionView (s : State) (idle : Word) (f : Session → Word) : Word :=
  match s.session with
  | none => idle
  | some ses => f ses

/-- A session register that holds a number (R39). -/
def State.sessionNat (s : State) (f : Session → Nat) : Word := s.sessionView 0 (fun ses => BitVec.ofNat 32 (f ses))

/-- x[NAME]: what a register reads as (R14, R31). Reads have no side effect (R88). -/
def State.readReg (s : State) : Reg → Word
  | .id => Config.idValue
  | .version => Config.versionValue
  | .capMaxBlockSize => BitVec.ofNat 32 s.params.maxBlockSize
  | .capMaxGenBlocks => BitVec.ofNat 32 s.params.maxGenBlocks
  | .capMaxGenerations => BitVec.ofNat 32 s.params.maxGenerations
  | .capMaxBuffer => BitVec.ofNat 32 s.params.maxBuffer
  | .capGf => capGfWord s.params
  | .ctrl => s.ctrl
  | .cmd => s.cmd
  | .status => s.status.toWord
  | .result => s.result
  | .ioCode => s.ioCode
  | .arg0 => s.arg0
  | .arg1 => s.arg1
  | .arg2 => s.arg2
  | .cfgBlockSize => s.cfgBlockSize
  | .cfgBlocksPerGen => s.cfgBlocksPerGen
  | .cfgDataLength => s.cfgDataLength
  | .session => s.sessionView 0 Session.toWord
  | .blockSize => s.sessionNat (·.blockSize)
  | .blocksPerGen => s.sessionNat (·.blocksPerGen)
  | .dataLength => s.sessionNat (·.dataLength)
  | .numBlocks => s.sessionNat Session.numBlocks
  | .numGenerations => s.sessionNat Session.numGenerations
  | .bufferSize => s.sessionNat Session.bufferSize
  | .gensCompleted => s.sessionNat Session.gensCompleted
  | .lastGenBlocks => s.sessionNat (fun ses => ses.blocksOf (ses.numGenerations - 1))
  | .pktGen => s.pktGen
  | .pktNumBlocks => s.pktNumBlocks
  | .pktBlockSize => s.pktBlockSize
  | .qGen => s.qGen
  | .qNumBlocks => s.qNumBlocks
  | .qRank => s.qRank
  | .qFlags => s.qFlags
  | .flGen => s.flGen
  | .flStart => s.flStart
  | .flLength => s.flLength
  | .flValid => s.flValid
  | .flushAck => 0

/-- A write that only stores its value (R88): the RW registers other than CMD take it, CTRL in its field only (R32), the
RO registers ignore it (R31). CMD and FLUSH_ACK act and are handled where they act. -/
def State.storeReg (s : State) (r : Reg) (v : Word) : State :=
  match r with
  | .ctrl => { s with ctrl := v &&& ctrlMask }
  | .arg0 => { s with arg0 := v }
  | .arg1 => { s with arg1 := v }
  | .arg2 => { s with arg2 := v }
  | .cfgBlockSize => { s with cfgBlockSize := v }
  | .cfgBlocksPerGen => { s with cfgBlocksPerGen := v }
  | .cfgDataLength => { s with cfgDataLength := v }
  | .pktGen => { s with pktGen := v }
  | .pktNumBlocks => { s with pktNumBlocks := v }
  | .pktBlockSize => { s with pktBlockSize := v }
  | .id | .version | .capMaxBlockSize | .capMaxGenBlocks | .capMaxGenerations | .capMaxBuffer | .capGf | .cmd
  | .status | .result | .ioCode | .session | .blockSize | .blocksPerGen | .dataLength | .numBlocks
  | .numGenerations | .bufferSize | .gensCompleted | .lastGenBlocks | .qGen | .qNumBlocks | .qRank | .qFlags
  | .flGen | .flStart | .flLength | .flValid | .flushAck => s

end Sys2Proof.Machine
end

