-- ==== Sys2Proof/Machine/Bus.lean ====
section
/-! DEFINITION. The host port: the address map (R81 of spec/20_memory.md), widths, alignment and bus errors (R83, R84), and
the byte order of 32-bit accesses (R85). -/

namespace Sys2Proof.Machine

/-- The two widths of a host access (R83). -/
inductive Width where
  | byte
  | word
  deriving DecidableEq, Repr

/-- How many bytes an access covers. -/
def Width.bytes : Width → Nat
  | .byte => 1
  | .word => 4

/-- What a legal host access reaches: a register, or an offset of a memory. -/
inductive Target where
  | reg (r : Reg)
  | mem (sp : Space) (o : Nat)
  deriving DecidableEq, Repr

/-- The size of the register window (R81). -/
def windowSize : Nat := 0x1000

/-- The host address of a memory's offset 0 (R81). -/
def Space.base : Space → Nat
  | .cstg => 0x00010000
  | .dstg => 0x01000000
  | .blk => 0x80000000

/-- The size of a memory (R80). -/
def Space.size (p : Config.Params) : Space → Nat
  | .cstg => p.maxGenBlocks
  | .dstg => p.maxBlockSize
  | .blk => p.maxBuffer

/-- The memory whose host range holds address `a` (R81). -/
def spaceAt (p : Config.Params) (a : Nat) : Option Space :=
  [Space.cstg, Space.dstg, Space.blk].find? (fun sp => decide (sp.base ≤ a ∧ a < sp.base + sp.size p))

/-- What a host access of width `w` at address `a` reaches, or why it is a bus error (R81, R83, R84).
Which reason names an access that meets several is the model's, DESIGN CHOICE (log 10). -/
def resolve (p : Config.Params) (w : Width) (a : Nat) : Except BusError Target :=
  if w = .word ∧ a % 4 ≠ 0 then .error .misaligned
  else if a < windowSize then
    match w with
    | .byte => .error .narrowRegister
    | .word =>
      match Reg.ofOffset a with
      | none => .error .undefinedRegister
      | some r => .ok (.reg r)
  else
    match spaceAt p a with
    | none => .error .unmapped
    | some sp =>
      if a + w.bytes ≤ sp.base + sp.size p then .ok (.mem sp (a - sp.base)) else .error .straddling

/-- The four bytes of a word in address order, the least significant first (R85). -/
def wordBytes (v : Word) : List Byte :=
  [v.extractLsb' 0 8, v.extractLsb' 8 8, v.extractLsb' 16 8, v.extractLsb' 24 8]

/-- The word whose bytes in address order are these (R85). -/
def bytesWord (b0 b1 b2 b3 : Byte) : Word := b3 ++ b2 ++ b1 ++ b0

/-- The 32-bit value at offset `o` (R85). -/
def Memory.readWord (m : Memory) (o : Nat) : Word :=
  bytesWord (m.read o) (m.read (o + 1)) (m.read (o + 2)) (m.read (o + 3))

/-- The 32-bit value at offset `o` replaced, its four bytes in one step (R83, R85). -/
def Memory.writeWord (m : Memory) (o : Nat) (v : Word) : Memory := m.writeBytes o (wordBytes v)

/-- The value of a legal read; an 8-bit one is widened with zeros. -/
def State.readTarget (s : State) (w : Width) : Target → Word
  | .reg r => s.readReg r
  | .mem sp o =>
    match w with
    | .byte => ((s.space sp).read o).setWidth 32
    | .word => (s.space sp).readWord o

/-- A legal write that only stores its value (R88). -/
def State.writeTarget (s : State) (w : Width) (v : Word) : Target → State
  | .reg r => s.storeReg r v
  | .mem sp o =>
    match w with
    | .byte => s.setSpace sp ((s.space sp).write o (v.setWidth 8))
    | .word => s.setSpace sp ((s.space sp).writeWord o v)

/-- A host read: the value goes to the host's record (R119), no core state changes (R88); a bus error is a fault of
the step (R343). -/
def hostRead (w : Width) (a : Nat) (s : State) : Result :=
  match resolve s.params w a with
  | .error e => .fault (.busError e)
  | .ok t => .next { s with reads := s.readTarget w t :: s.reads }

end Sys2Proof.Machine
end

