-- ==== Sys2Proof/Machine/Combine.lean ====
section
/-! DEFINITION. ENCODE: the coefficient source and the linear-combination unit (spec/45_encode.md R290-R295). -/

namespace Sys2Proof.Machine

/-- The first nonzero byte of the queue and the bytes after it; none if the queue holds no nonzero byte. The zero
bytes before it are drawn and rejected (R292). -/
def firstNonzero : List Byte → Option (Byte × List Byte)
  | [] => none
  | b :: bs => if b = 0 then firstNonzero bs else some (b, bs)

/-- The free nonzero coefficient number `k` (log 3). -/
def freeNonzero (k : Nat) : Byte := BitVec.ofNat 8 ((Config.freeCoeff k).val + 1)

/-- sample_nonzero() and the source after it; none if the source never yields a nonzero byte (R292, R295). -/
def sampleNonzero (c : CoeffSource) : Option (Byte × CoeffSource) :=
  match firstNonzero c.queued with
  | some (b, rest) => some (b, { c with queued := rest })
  | none =>
    if c.dead then none else some (freeNonzero c.drawn, { c with queued := [], drawn := c.drawn + 1 })

/-- `k` nonzero coefficients in the order they are drawn (R293). -/
def drawCoeffs : Nat → CoeffSource → Option (List Byte × CoeffSource)
  | 0, c => some ([], c)
  | k + 1, c =>
    match sampleNonzero c with
    | none => none
    | some (b, c') =>
      match drawCoeffs k c' with
      | none => none
      | some (bs, c'') => some (b :: bs, c'')

/-- Σ coeff[i] * row(i) over rows `i`, `i+1`, ... in ascending order, onto the accumulator `acc` (R291). -/
def combineRows (p : BitVec 9) (row : Nat → List Byte) : (coeffs : List Byte) → (i : Nat) → (acc : List Byte) → List Byte
  | [], _, acc => acc
  | c :: cs, i, acc => combineRows p row cs (i + 1) (rowAddmul p c acc (row i))

/-- `outBlock` (R291). -/
def combinedData (p : BitVec 9) (ses : Session) (m : Memory) (g : Nat) (coeffs : List Byte) : List Byte :=
  combineRows p (ses.readBlk m g) coeffs 0 (List.replicate ses.blockSize 0)

/-- `outCoeffs` (R291). -/
def combinedCoeffs (p : BitVec 9) (ses : Session) (g : Nat) (coeffs : List Byte) : List Byte :=
  combineRows p (Matrix.row (ses.gen g).matrix) coeffs 0 (List.replicate (ses.blocksOf g) 0)

/-- lin_comb(g, r) and the completion, or the hang if the coefficient source never yields enough nonzero bytes; the
source has then been drawn to the end of its queue (R291, R295; DEDUCED, log 12, log 16). -/
def linComb (ses : Session) (g r : Nat) (s : State) : State :=
  match drawCoeffs r s.coeffs with
  | none => (s.setCoeffs { s.coeffs with queued := [] }).hang
  | some (coeffs, source) =>
    ((s.setCoeffs source).setStaging (combinedData s.params.gfPoly ses s.blk g coeffs)
      (combinedCoeffs s.params.gfPoly ses g coeffs)).finish true

/-- ENCODE (R290). The header registers are written before the rank test. -/
def execEncode (s : State) : Result :=
  .next (s.withSession fun ses =>
    let g := s.genIndex
    if ses.numGenerations ≤ g then s.finish false
    else
      let s' := s.setHeader g (ses.blocksOf g) ses.blockSize
      if (ses.gen g).rank = 0 then s'.finish false
      else linComb ses g (ses.gen g).rank s')

end Sys2Proof.Machine
end

