-- ==== Sys2Proof/Machine/Configure.lean ====
section
/-! DEFINITION. CFG_ENCODER and CFG_DECODER (spec/42_session_config.md R210-R216). -/

namespace Sys2Proof.Machine

/-- validate(bs, B, L), on the unbounded values (R213). -/
def validConfig (p : Config.Params) (bs bpg len : Nat) : Bool :=
  decide (bs ≠ 0 ∧ bpg ≠ 0 ∧ len ≠ 0 ∧ bs ≤ p.maxBlockSize ∧ bpg ≤ p.maxGenBlocks
    ∧ bufferSizeOf bs len ≤ p.maxBuffer ∧ numGenerationsOf bs bpg len ≤ p.maxGenerations)

/-- A generation of n blocks right after configuration (R214, R215). -/
def Gen.fresh (mode : Mode) (n : Nat) : Gen :=
  match mode with
  | .encoder => { rank := n, decoded := true, matrix := Matrix.identity n }
  | .decoder => { rank := 0, decoded := false, matrix := Matrix.zero n }

/-- The session a valid configuration creates: generations 0 .. numGenerations-2 of B blocks and the last one of the
remaining blocks (R40, R212). -/
def Session.create (mode : Mode) (bs bpg len : Nat) : Session where
  mode := mode
  blockSize := bs
  blocksPerGen := bpg
  dataLength := len
  gens :=
    List.replicate (numGenerationsOf bs bpg len - 1) (Gen.fresh mode bpg)
      ++ [Gen.fresh mode (genBlocksOf bs bpg len (numGenerationsOf bs bpg len - 1))]

/-- The first BLK offset a configuration zero-fills, up to bufferSize: the tail in encoder mode, the whole buffer in
decoder mode (R214, R215). -/
def zeroFillFrom (mode : Mode) (len : Nat) : Nat :=
  match mode with
  | .encoder => len
  | .decoder => 0

/-- The common step of both commands (R212). -/
def configure (mode : Mode) (s : State) : Result :=
  let bs := s.cfgBlockSize.toNat
  let bpg := s.cfgBlocksPerGen.toNat
  let len := s.cfgDataLength.toNat
  .next (
    if validConfig s.params bs bpg len then
      (s.setSession (Session.create mode bs bpg len)
        (s.blk.zeroFill (zeroFillFrom mode len) (bufferSizeOf bs len))).finish true
    else s.raise .badConfig)

/-- CFG_ENCODER (R214). -/
def execCfgEncoder (s : State) : Result := configure .encoder s

/-- CFG_DECODER (R215). -/
def execCfgDecoder (s : State) : Result := configure .decoder s

end Sys2Proof.Machine
end

