-- ==== Sys2Proof/Machine/Flush.lean ====
section
/-! DEFINITION. FLUSH_GEN, FLUSH_ALL and the handshake with the provider (spec/46_flush_query.md R310-R316,
spec/70_reset_and_hazards.md R381). -/

namespace Sys2Proof.Machine

/-- flush_gen(g) up to the handshake: the returned boolean, or none where the provider must be asked (R310). -/
def flushVerdict (hs : Bool) (ses : Session) (g : Nat) : Option Bool :=
  if ses.numGenerations ≤ g then some false
  else if !(ses.gen g).decoded then some false
  else if !hs then some true
  else none

/-- FLUSH_ALL from generation g on, with `k` generations left and the running result `ok`: it runs up to the next
request, or finishes (R311, R381). -/
def flushFrom (ses : Session) : (k g : Nat) → (ok : Bool) → State → State
  | 0, _, ok, s => s.finish ok
  | k + 1, g, ok, s =>
    match flushVerdict s.flushHs ses g with
    | some b => flushFrom ses k (g + 1) (ok && b) s
    | none => s.requestFlush ses (.all g ok) g

/-- FLUSH_GEN (R310). -/
def execFlushGen (s : State) : Result :=
  .next (s.withSession fun ses =>
    match flushVerdict s.flushHs ses s.genIndex with
    | some b => s.finish b
    | none => s.requestFlush ses (.gen s.genIndex) s.genIndex)

/-- FLUSH_ALL (R311). -/
def execFlushAll (s : State) : Result :=
  .next (s.withSession fun ses => flushFrom ses ses.numGenerations 0 true s)

/-- A write of v to FLUSH_ACK (R315): ignored with no request pending; otherwise it ends the request, and the core's
continuing step is to come (R381 items 2 and 3). -/
def acknowledge (v : Word) (s : State) : State :=
  if s.status.flushReq then
    match s.activity with
    | .flushWait f =>
      { s with status := { s.status with flushReq := false }, activity := .flushAcked f v }
    | .idle | .flushAcked _ _ | .drawWait => { s with status := { s.status with flushReq := false } }
  else s

/-- The core's continuing step after the answer v (R315, R381 item 3; DEDUCED, log 6): IO_FAIL, or the
rest of the command. -/
def continueFlush (f : FlushCmd) (v : Word) (s : State) : State :=
  let s' := { s with activity := .idle }
  if v ≠ 0 then { s' with ioCode := v }.raise .ioFail
  else
    match f with
    | .gen _ => s'.finish true
    | .all g ok => s'.withSession fun ses => flushFrom ses (ses.numGenerations - (g + 1)) (g + 1) ok s'

/-- The core's own step between commands: it continues an answered flush, and otherwise does nothing. -/
def coreStep (s : State) : State :=
  match s.activity with
  | .flushAcked f v => continueFlush f v s
  | .idle | .flushWait _ | .drawWait => s

end Sys2Proof.Machine
end

