-- ==== Sys2Proof/Machine/House.lean ====
section
/-! DEFINITION. NOP, CLR_STATUS and GEN_QUERY (spec/46_flush_query.md R320-R322). -/

namespace Sys2Proof.Machine

/-- NOP (R321). -/
def execNop (s : State) : Result := .next (s.finish true)

/-- CLR_STATUS (R322). -/
def execClrStatus (s : State) : Result := .next (s.clearSticky.finish true)

/-- GEN_QUERY (R320). -/
def execGenQuery (s : State) : Result :=
  .next (s.withSession fun ses =>
    if ses.numGenerations ≤ s.genIndex then s.finish false
    else (s.setQuery ses s.genIndex).finish true)

end Sys2Proof.Machine
end

