-- ==== Sys2Proof/Machine/Scalar.lean ====
section
/-! DEFINITION. The scalar commands of the field unit (spec/40_field_scalar.md R154-R157). -/

namespace Sys2Proof.Machine

/-- The template of the four commands: RESULT <- zext_32(r), finish(1). -/
def scalarResult (r : Byte) (s : State) : Result := .next ((s.setResult r).finish true)

/-- GF_ADD (R154). -/
def execGfAdd (a b : Byte) (s : State) : Result := scalarResult (gfAdd a b) s

/-- GF_SUB, the same function as GF_ADD (R155). -/
def execGfSub (a b : Byte) (s : State) : Result := scalarResult (gfAdd a b) s

/-- GF_MUL (R156). -/
def execGfMul (a b : Byte) (s : State) : Result := scalarResult (gfMul s.params.gfPoly a b) s

/-- GF_DIV (R157). -/
def execGfDiv (a b : Byte) (s : State) : Result := scalarResult (gfDiv s.params.gfPoly a b) s

end Sys2Proof.Machine
end

