-- ==== Sys2Proof/Machine/Solve.lean ====
section
/-! DEFINITION. DECODE_GEN and DECODE_ALL: back substitution (spec/44_decode.md R270-R273). -/

namespace Sys2Proof.Machine

/-- Row i of the back substitution: subtract `M[i][j] * Blk(g, j)` for every later column j (R271). -/
def subtractLater (p : BitVec 9) (ses : Session) (g : Nat) (m : Memory) (i : Nat) : Memory :=
  (List.range' (i + 1) (ses.blocksOf g - (i + 1))).foldl
    (fun m j =>
      ses.writeBlk m g i
        (rowAddmul p (Matrix.entry (ses.gen g).matrix i j) (ses.readBlk m g i) (ses.readBlk m g j))) m

/-- Row i of the back substitution, then divided by its diagonal coefficient (R271). -/
def solveRow (p : BitVec 9) (ses : Session) (g : Nat) (m : Memory) (i : Nat) : Memory :=
  let m' := subtractLater p ses g m i
  ses.writeBlk m' g i (rowDiv p (ses.readBlk m' g i) (Matrix.entry (ses.gen g).matrix i i))

/-- back_substitute(g): the rows from the last one down to 0 (R271). -/
def backSubstitute (p : BitVec 9) (ses : Session) (g : Nat) (m : Memory) : Memory :=
  (List.range (ses.blocksOf g)).reverse.foldl (solveRow p ses g) m

/-- finalize(g) (R272). -/
def Session.finalize (ses : Session) (g : Nat) : Session :=
  ses.setGen g { ses.gen g with decoded := true, matrix := Matrix.identity (ses.blocksOf g) }

/-- What decode_gen has at hand: the running result, the session and BLK. -/
structure Decoding where
  ok : Bool
  session : Session
  blk : Memory
  deriving DecidableEq, Repr

/-- decode_gen(g): the returned boolean, the session and BLK (R270). -/
def decodeOne (p : BitVec 9) (ses : Session) (m : Memory) (g : Nat) : Decoding :=
  if ses.numGenerations ≤ g then { ok := false, session := ses, blk := m }
  else if (ses.gen g).decoded then { ok := true, session := ses, blk := m }
  else if (ses.gen g).rank < ses.blocksOf g then { ok := false, session := ses, blk := m }
  else { ok := true, session := ses.finalize g, blk := backSubstitute p ses g m }

/-- DECODE_ALL's loop body: the running result is the conjunction, and every generation is attempted (R273). -/
def decodeNext (p : BitVec 9) (d : Decoding) (g : Nat) : Decoding :=
  let d' := decodeOne p d.session d.blk g
  { d' with ok := d.ok && d'.ok }

/-- DECODE_ALL's loop over every generation in ascending order (R273). -/
def decodeEvery (p : BitVec 9) (ses : Session) (m : Memory) : Decoding :=
  (List.range ses.numGenerations).foldl (decodeNext p) { ok := true, session := ses, blk := m }

/-- The completion of a decode. -/
def State.finishDecoding (d : Decoding) (s : State) : State := (s.setSession d.session d.blk).finish d.ok

/-- DECODE_GEN (R270). -/
def execDecodeGen (s : State) : Result :=
  .next (s.withSession fun ses => s.finishDecoding (decodeOne s.params.gfPoly ses s.blk s.genIndex))

/-- DECODE_ALL (R273). -/
def execDecodeAll (s : State) : Result :=
  .next (s.withSession fun ses => s.finishDecoding (decodeEvery s.params.gfPoly ses s.blk))

end Sys2Proof.Machine
end

