-- ==== Sys2Proof/Machine/Store.lean ====
section
/-! DEFINITION. STORE: packet validation, the slot write, incremental Gaussian elimination on a scratch matrix, the
diagonal rank test and the commit (spec/43_store_elimination.md R240-R248; spec/90_conflicts.md C1, C2). -/

namespace Sys2Proof.Machine

/-- One recorded row operation: row i got c times row k (R243). -/
structure RowOp where
  k : Nat
  i : Nat
  c : Byte
  deriving DecidableEq, Repr

/-- The scratch matrix and the row operations done on it so far, in order (R51, R243). -/
structure Scratch where
  matrix : Matrix
  ops : List RowOp
  deriving DecidableEq, Repr

/-- The pairs (k, i) in the order the elimination visits them: k = 0 .. n-2, and i = k+1 .. n-1 within each (R243). -/
def eliminationOrder (n : Nat) : List (Nat × Nat) :=
  (List.range (n - 1)).flatMap (fun k => (List.range' (k + 1) (n - 1 - k)).map (fun i => (k, i)))

/-- One row operation of the elimination (R243). A zero pivot gives the multiplier 0. -/
def eliminateRow (p : BitVec 9) (sc : Scratch) (ki : Nat × Nat) : Scratch :=
  let c := gfDiv p (Matrix.entry sc.matrix ki.2 ki.1) (Matrix.entry sc.matrix ki.1 ki.1)
  { matrix := sc.matrix.set ki.2 (rowAddmul p c (Matrix.row sc.matrix ki.2) (Matrix.row sc.matrix ki.1))
    ops := sc.ops ++ [{ k := ki.1, i := ki.2, c := c }] }

/-- eliminate(M, n, r, cand), without the rank count (R243). -/
def eliminate (p : BitVec 9) (a : Matrix) (n r : Nat) (cand : List Byte) : Scratch :=
  (eliminationOrder n).foldl (eliminateRow p) { matrix := a.set r cand, ops := [] }

/-- The tentative rank: the number of nonzero diagonal entries (R243, R244). -/
def diagonalRank (n : Nat) (a : Matrix) : Nat :=
  (List.range n).countP (fun i => Matrix.entry a i i != 0)

/-- The recorded row operations applied to the blocks of generation g, in list order (R246). -/
def replayOps (p : BitVec 9) (ses : Session) (g : Nat) (ops : List RowOp) (m : Memory) : Memory :=
  ops.foldl
    (fun m op => ses.writeBlk m g op.i (rowAddmul p op.c (ses.readBlk m g op.i) (ses.readBlk m g op.k))) m

/-- The strictly-below-diagonal entries of rows 0 .. r set to zero (R246). -/
def zeroBelowDiagonal (r : Nat) (a : Matrix) : Matrix :=
  a.mapIdx (fun i row => if i ≤ r then row.mapIdx (fun j x => if j < i then 0 else x) else row)

/-- valid(g, nb, pbs) (R241). -/
def Session.validPacket (ses : Session) (g nb pbs : Nat) : Bool :=
  decide (g < ses.numGenerations) && decide (nb = ses.blocksOf g) && decide (pbs = ses.blockSize)

/-- commit(g, r, S, ops) (R246). -/
def Session.commit (ses : Session) (g r : Nat) (a : Matrix) : Session :=
  ses.setGen g { ses.gen g with rank := r + 1, matrix := zeroBelowDiagonal r a }

/-- STORE of a valid packet to a generation that is not complete: slot write, elimination, rank test, commit or
rejection (R240, R244-R248). -/
def storePacket (ses : Session) (g : Nat) (s : State) : State :=
  let n := ses.blocksOf g
  let r := (ses.gen g).rank
  let blk := ses.writeBlk s.blk g r (s.packetData ses.blockSize)
  let sc := eliminate s.params.gfPoly (ses.gen g).matrix n r (s.packetCoeffs n)
  if r < diagonalRank n sc.matrix then
    (s.setSession (ses.commit g r sc.matrix) (replayOps s.params.gfPoly ses g sc.ops blk)).finish true
  else (s.setBlk blk).finish false

/-- STORE (R240). -/
def execStore (s : State) : Result :=
  .next (s.withSession fun ses =>
    let g := s.pktGen.toNat
    if !ses.validPacket g s.pktNumBlocks.toNat s.pktBlockSize.toNat then s.finish false
    else if (ses.gen g).rank = ses.blocksOf g then s.finish true
    else storePacket ses g s)

end Sys2Proof.Machine
end

