-- ==== Sys2Proof/Machine/Vector.lean ====
section
/-! DEFINITION. The vector commands of the field unit (spec/41_field_vector.md R180-R187). -/

namespace Sys2Proof.Machine

/-- A command that rewrites dst in place: the bounds check, then each element in ascending order (R180, R182). -/
def vectorInPlace (f : Byte → Byte) (s : State) : Result :=
  .next (
    if s.dstInRange then (s.setBlk (s.blk.mapBytes f s.vecDst s.vecLen)).finish true
    else s.raise .range)

/-- A fused multiply-add: the bounds checks, the fast path for C = 0, then each element in ascending order (R180,
R182, R186). -/
def vectorAddmul (c : Byte) (s : State) : Result :=
  .next (
    if !s.dstInRange then s.raise .range
    else if !s.srcInRange then s.raise .range
    else if c = 0 then s.finish true
    else
      (s.setBlk (s.blk.zipBytes (fun d x => gfAdd d (gfMul s.params.gfPoly c x)) s.vecDst s.vecSrc s.vecLen)).finish true)

/-- V_SCALE (R183). -/
def execVScale (c : Byte) (s : State) : Result := vectorInPlace (fun d => gfMul s.params.gfPoly c d) s

/-- V_ADDS (R184). -/
def execVAdds (c : Byte) (s : State) : Result := vectorInPlace (fun d => gfAdd d c) s

/-- V_SUBS, the same results as V_ADDS (R185). -/
def execVSubs (c : Byte) (s : State) : Result := vectorInPlace (fun d => gfAdd d c) s

/-- V_ADDMUL (R186). -/
def execVAddmul (c : Byte) (s : State) : Result := vectorAddmul c s

/-- V_SUBMUL, the same results as V_ADDMUL (R187). -/
def execVSubmul (c : Byte) (s : State) : Result := vectorAddmul c s

end Sys2Proof.Machine
end

