-- ==== Sys2Proof/Machine/Dispatch.lean ====
section
/-! DEFINITION. The command's rule for each constructor of Instr (R116 of spec/30_encoding.md). -/

namespace Sys2Proof.Machine

def exec (i : Instr) (s : State) : Host.Outcome State Fault Refusal :=
  match i with
  | .nop => Sys2Proof.Machine.execNop s
  | .clrStatus => Sys2Proof.Machine.execClrStatus s
  | .gfAdd a b => Sys2Proof.Machine.execGfAdd a b s
  | .gfSub a b => Sys2Proof.Machine.execGfSub a b s
  | .gfMul a b => Sys2Proof.Machine.execGfMul a b s
  | .gfDiv a b => Sys2Proof.Machine.execGfDiv a b s
  | .vScale c => Sys2Proof.Machine.execVScale c s
  | .vAdds c => Sys2Proof.Machine.execVAdds c s
  | .vSubs c => Sys2Proof.Machine.execVSubs c s
  | .vAddmul c => Sys2Proof.Machine.execVAddmul c s
  | .vSubmul c => Sys2Proof.Machine.execVSubmul c s
  | .cfgEncoder => Sys2Proof.Machine.execCfgEncoder s
  | .cfgDecoder => Sys2Proof.Machine.execCfgDecoder s
  | .store => Sys2Proof.Machine.execStore s
  | .decodeGen => Sys2Proof.Machine.execDecodeGen s
  | .decodeAll => Sys2Proof.Machine.execDecodeAll s
  | .encode => Sys2Proof.Machine.execEncode s
  | .flushGen => Sys2Proof.Machine.execFlushGen s
  | .flushAll => Sys2Proof.Machine.execFlushAll s
  | .genQuery => Sys2Proof.Machine.execGenQuery s

end Sys2Proof.Machine
end

