-- ==== Sys2Proof/Machine/Issue.lean ====
section
/-! DEFINITION. Command issue (R111 of spec/30_encoding.md) and host writes (R88, R380). -/

namespace Sys2Proof.Machine

/-- execute(w): decode, then the command's rule, or ILLEGAL_CMD (R117, R341). -/
def execute (w : Word) (s : State) : Result :=
  match decode w with
  | .ok i => exec i s
  | .error _ => .next (s.raise .illegalCmd)

/-- A write of `w` to CMD (R111). -/
def issue (w : Word) (s : State) : Result :=
  if s.status.busy then .next s.drop else execute w (s.accept w)

/-- A host write (R88): to CMD it issues a command, to FLUSH_ACK it answers a request, and any other one stores its
value, or is a fault while BUSY = 1 (R380, log 7). A bus error is a fault of the step (R343). -/
def hostWrite (w : Width) (a : Nat) (v : Word) (s : State) : Result :=
  match resolve s.params w a with
  | .error e => .fault (.busError e)
  | .ok (.reg .cmd) => issue v s
  | .ok (.reg .flushAck) => .next (acknowledge v s)
  | .ok t => if s.status.busy then .fault .busyHazard else .next (s.writeTarget w v t)

end Sys2Proof.Machine
end

