-- ==== Sys2Proof/Machine/Agents.lean ====
section
/-! DEFINITION. The moves of the agents (R22, R360 of spec/60_exceptions.md) and who moves next (R91, R381; log 4). -/

namespace Sys2Proof.Machine

/-- One poll of `wait`, `r32 STATUS` (R119): while it reads BUSY = 1 the statement stays on the program. -/
def hostPoll (s : State) : Result :=
  hostRead .word Reg.status.offset (if s.status.busy then { s with host := .wait :: s.host } else s)

/-- One statement of the host program (R119); the statement is already taken off the program. -/
def hostStatement (st : HostStmt) (s : State) : Result :=
  match st with
  | .w32 a v => hostWrite .word a.toNat v s
  | .w8 a v => hostWrite .byte a.toNat (v.setWidth 32) s
  | .r32 a => hostRead .word a.toNat s
  | .r8 a => hostRead .byte a.toNat s
  | .wait => hostPoll s

/-- The host's move: its next statement; a host with none left does nothing. -/
def hostMove (s : State) : Result :=
  match s.host with
  | [] => .next s
  | st :: rest => hostStatement st { s with host := rest }

/-- The provider's move: it writes its next answer to FLUSH_ACK (R315); one that has no answer stays silent (R384). -/
def providerMove (s : State) : State :=
  match s.provider with
  | [] => s
  | v :: rest => acknowledge v { s with provider := rest }

/-- The host does nothing but poll, or has no statement left. -/
def State.hostIdle (s : State) : Bool :=
  match s.host with
  | [] => true
  | .wait :: _ => true
  | .w32 _ _ :: _ | .w8 _ _ :: _ | .r32 _ :: _ | .r8 _ :: _ => false

/-- An answered flush waits for the core's continuing step (R381). -/
def State.continuing (s : State) : Bool :=
  match s.activity with
  | .flushAcked _ _ => true
  | .idle | .flushWait _ | .drawWait => false

/-- Who moves where `turns` does not say (log 4): the core if it has a flush to continue; the provider if a request is
pending, it has an answer, and the host only polls; otherwise the host. -/
def defaultTurn (s : State) : Turn :=
  if s.continuing then .core
  else if s.hostIdle && s.status.flushReq && !s.provider.isEmpty then .provider
  else .host

/-- Who moves next. -/
def nextTurn (s : State) : Turn := s.turns.headD (defaultTurn s)

/-- The state with the next entry of `turns` taken. -/
def popTurn (s : State) : State := { s with turns := s.turns.tail }

/-- The move of one agent. -/
def act (t : Turn) (s : State) : Result :=
  match t with
  | .host => hostMove s
  | .provider => .next (providerMove s)
  | .core => .next (coreStep s)
  | .reset c => .next (s.afterReset c)

/-- A write of `w` to CMD at the head of the host's statements, with the host to move next and no command in flight. -/
def placeCommand (w : Word) (s : State) : State :=
  { s with
    host := .w32 (BitVec.ofNat 32 Reg.cmd.offset) w :: s.host
    turns := .host :: s.turns
    status := { s.status with busy := false, flushReq := false }
    activity := .idle }

end Sys2Proof.Machine
end

