-- ==== Sys2Proof/Machine/Step.lean ====
section
/-! DEFINITION. One step of the machine, and how a command word is put where the next step runs it. -/

namespace Sys2Proof.Machine

/-- One step: the agent whose turn it is makes its move. A command word is executed in the step in which the host
writes it to CMD (R4, R111, R381). -/
def step (s : State) : Host.Outcome State Fault Refusal := act (nextTurn s) (popTurn s)

/-- The state whose next step runs the command word of `nbits` bits `w` (R110: every command is one 32-bit word). The
core fetches nothing (R30): the word is what the host writes to CMD next (log 5). -/
def State.withFetchWord (s : State) (nbits w : Nat) : State :=
  placeCommand (BitVec.ofNat 32 (w % 2 ^ nbits)) s

end Sys2Proof.Machine
end

