-- ==== Sys2Proof/Safety.lean ====
section
/-! DEFINITION. The terms claims use: the end of a run (R387), the invariant of the machine (R44 items 1-3 of
spec/10_state.md, and the coherence of registers, memories and the flush wait), and the spec-side functions a claim
compares the machine with: polynomial arithmetic (R152), sums in the field, packets consistent with original blocks (R44
item 4) and the single-row form of STORE (R247). No step calls anything of this file. -/

namespace Sys2Proof.Machine

/-! ### The end of a run, and the invariant -/

/-- A run of a host program is over (R387). -/
def State.runEnded (s : State) : Bool := s.host.isEmpty && !s.status.busy && !s.status.flushReq

/-- The memories are in canonical form and within their sizes (R80). -/
abbrev State.MemoriesOk (s : State) : Prop :=
  (s.blk.wf = true ∧ s.blk.within s.params.maxBuffer = true) ∧
  (s.dstg.wf = true ∧ s.dstg.within s.params.maxBlockSize = true) ∧
  (s.cstg.wf = true ∧ s.cstg.within s.params.maxGenBlocks = true)

/-- The fields no rule writes read 0 (R32, R34, R47), and ERR holds a code of R340. -/
abbrev State.RegistersOk (s : State) : Prop :=
  s.ctrl &&& ~~~ctrlMask = 0 ∧ s.result.toNat < 256 ∧ s.qFlags.toNat < 4 ∧ s.status.err.toNat ≤ 5

/-- The generation a flush command waits on (R51). -/
def FlushCmd.target : FlushCmd → Nat
  | .gen g => g
  | .all g _ => g

/-- A flush waits on a decoded generation of the active session, and FL_* describe its range (R310, R314). -/
def State.flushTargetOk (s : State) (f : FlushCmd) : Bool :=
  match s.session with
  | none => false
  | some ses =>
    decide (f.target < ses.numGenerations) && (ses.gen f.target).decoded
      && s.flGen == BitVec.ofNat 32 f.target && s.flStart == BitVec.ofNat 32 (ses.flushStart f.target)
      && s.flLength == BitVec.ofNat 32 (ses.flushLength f.target)
      && s.flValid == BitVec.ofNat 32 (ses.flushValid f.target)

/-- BUSY is 1 exactly while a command is in flight, and FLUSH_REQ exactly while a request is pending (R33, R314, R381,
R384). -/
def State.flightOk (s : State) : Bool :=
  match s.activity with
  | .idle => !s.status.busy && !s.status.flushReq
  | .flushWait f => s.status.busy && s.status.flushReq && s.flushTargetOk f
  | .flushAcked f _ => s.status.busy && !s.status.flushReq && s.flushTargetOk f
  | .drawWait => s.status.busy && !s.status.flushReq

/-- A matrix of n rows of n bytes (R43). -/
abbrev Matrix.Square (n : Nat) (a : Matrix) : Prop := a.length = n ∧ ∀ row ∈ a, row.length = n

/-- R41 and R44 items 1-3 for one generation of n blocks: accepted rows are zero below the diagonal and nonzero on it,
the rows at or beyond the rank are zero, and a decoded generation has full rank and the identity matrix. -/
abbrev Gen.Ok (n : Nat) (x : Gen) : Prop :=
  x.rank ≤ n ∧ Matrix.Square n x.matrix ∧
  (∀ i < x.rank, (∀ j < i, Matrix.entry x.matrix i j = 0) ∧ Matrix.entry x.matrix i i ≠ 0) ∧
  (∀ i < n, x.rank ≤ i → ∀ j < n, Matrix.entry x.matrix i j = 0) ∧
  (x.decoded = true → x.rank = n ∧ x.matrix = Matrix.identity n)

/-- A session as a valid configuration and the session commands leave it (R40, R44, R213); every generation of an
encoder session is decoded (R42). -/
abbrev Session.Ok (p : Config.Params) (ses : Session) : Prop :=
  validConfig p ses.blockSize ses.blocksPerGen ses.dataLength = true ∧
  ses.gens.length = ses.numGenerations ∧
  ∀ g < ses.numGenerations,
    (ses.gen g).Ok (ses.blocksOf g) ∧ (ses.mode = .encoder → (ses.gen g).decoded = true)

/-- The active session, if there is one, is as the session commands leave it. -/
abbrev State.SessionOk (s : State) : Prop := ∀ ses ∈ s.session, ses.Ok s.params

/-- The invariant of the machine. -/
abbrev State.Inv (s : State) : Prop :=
  s.params.Legal ∧ s.MemoriesOk ∧ s.RegistersOk ∧ s.flightOk = true ∧ s.SessionOk

/-! ### Polynomial arithmetic -/

/-- The product of two bytes as polynomials over GF(2); bit k is the coefficient of x^k. -/
def polyProduct (x y : Byte) : BitVec 16 :=
  (List.range 8).foldl (fun acc k => if y.getLsbD k then acc ^^^ (x.setWidth 16 <<< k) else acc) 0

/-- The remainder modulo GF_POLY of a polynomial of degree at most 14. -/
def polyReduce (p : BitVec 9) (v : BitVec 16) : Byte :=
  ((List.range 7).foldl
    (fun v k => if v.getLsbD (14 - k) then v ^^^ (p.setWidth 16 <<< (6 - k)) else v) v).setWidth 8

/-- The product in GF(2^8) under GF_POLY (R152). -/
def polyMul (p : BitVec 9) (x y : Byte) : Byte := polyReduce p (polyProduct x y)

/-- 3^e in GF(2^8) under GF_POLY (R150, R151). -/
def polyPow (p : BitVec 9) : Nat → Byte
  | 0 => 1
  | e + 1 => polyMul p 3 (polyPow p e)

/-! ### Sums in the field, and packets consistent with original blocks -/

/-- f(0) ⊕ f(1) ⊕ ... ⊕ f(n-1). -/
def xorSum : (n : Nat) → (f : Nat → Byte) → Byte
  | 0, _ => 0
  | n + 1, f => xorSum n f ^^^ f n

/-- Byte b of the combination of n original blocks with coefficients `c` (the packet meaning of R44 item 4); `orig j b` is
byte b of original block j. -/
def combination (p : BitVec 9) (n : Nat) (c : Nat → Byte) (orig : Nat → Nat → Byte) (b : Nat) : Byte :=
  xorSum n (fun j => gfMul p (c j) (orig j b))

/-- R44 item 4 for generation g: each accepted row's slot holds the combination its coefficient row describes. -/
abbrev Session.Consistent (p : BitVec 9) (ses : Session) (m : Memory) (g : Nat) (orig : Nat → Nat → Byte) : Prop :=
  ∀ i < (ses.gen g).rank, ∀ b < ses.blockSize,
    m.read (ses.slotOffset g i + b)
      = combination p (ses.blocksOf g) (Matrix.entry (ses.gen g).matrix i) orig b

/-- The staged packet of n coefficients and bs bytes is consistent with the original blocks (R44 item 4). -/
abbrev State.PacketConsistent (s : State) (n bs : Nat) (orig : Nat → Nat → Byte) : Prop :=
  ∀ b < bs, s.dstg.read b = combination s.params.gfPoly n (fun j => s.cstg.read j) orig b

/-! ### STORE in its single-row form -/

/-- The candidate row `v` and its block `d`. -/
structure Candidate where
  v : List Byte
  d : List Byte
  deriving DecidableEq, Repr

/-- The candidate with column k cleared by row k of generation g (R247). -/
def Candidate.reduce (p : BitVec 9) (ses : Session) (m : Memory) (g : Nat) (x : Candidate) (k : Nat) : Candidate :=
  let c := gfDiv p (x.v.getD k 0) (Matrix.entry (ses.gen g).matrix k k)
  { v := rowAddmul p c x.v (Matrix.row (ses.gen g).matrix k)
    d := rowAddmul p c x.d (ses.readBlk m g k) }

/-- STORE of a valid packet to a generation that is not complete, in the form of R247: one candidate row and one block,
reduced by each accepted row; the slot already holds the raw packet data (R245). -/
def singleRowStore (ses : Session) (g : Nat) (s : State) : State :=
  let n := ses.blocksOf g
  let r := (ses.gen g).rank
  let m := ses.writeBlk s.blk g r (s.packetData ses.blockSize)
  let x := (List.range r).foldl (Candidate.reduce s.params.gfPoly ses m g)
    { v := s.packetCoeffs n, d := s.packetData ses.blockSize }
  if x.v.getD r 0 ≠ 0 then
    (s.setSession (ses.setGen g { ses.gen g with rank := r + 1, matrix := (ses.gen g).matrix.set r x.v })
      (ses.writeBlk m g r x.d)).finish true
  else (s.setBlk m).finish false

end Sys2Proof.Machine
end

