-- ==== Sys2Proof/Certificates/Slice0/Obligations.lean ====
section
/-! DEFINITION. The statements for the provers, file by file of spec/. A statement about the whole next state of a command
says the command's frame as well: every field it does not name is the old state's. -/

open Sys2Proof Sys2Proof.Machine

/-! ### Encoding (spec/30_encoding.md) -/

/-- R110, R112-R114, R116, R118: every command, with every operand byte, is well formed and decodes from its word. -/
def Obligations.DecodeEncodeRoundTrip : Prop :=
  ∀ i : Instr, i.wellFormed = true ∧ decode (encode i) = .ok i

/-- R110, R117: the decoder accepts exactly the legal words, and a word it accepts is the word of the command it gives. -/
def Obligations.DecoderAcceptsExactlyLegalWords : Prop :=
  ∀ w : Word,
    (Word.legal w = true ↔ ∃ i, decode w = .ok i) ∧ ∀ i, decode w = .ok i → encode i = w

/-- R118 and the words of R154-R157: some words written out from the encoding tables. -/
def Obligations.WrittenOutWordsDecode : Prop :=
  decode 0x100053CA = .ok (.gfAdd 0x53 0xCA) ∧ decode 0x110099CA = .ok (.gfSub 0x99 0xCA) ∧
  decode 0x12005783 = .ok (.gfMul 0x57 0x83) ∧ decode 0x1300C183 = .ok (.gfDiv 0xC1 0x83) ∧
  decode 0x20000083 = .ok (.vScale 0x83) ∧ decode 0x2100000F = .ok (.vAdds 0x0F) ∧
  decode 0x23000083 = .ok (.vAddmul 0x83) ∧ decode 0x31000000 = .ok .cfgDecoder ∧
  decode 0x40000000 = .ok .store ∧ decode 0x51000000 = .ok .decodeAll ∧
  decode 0x60000000 = .ok .encode ∧ decode 0x70000000 = .ok .flushGen ∧ decode 0x80000000 = .ok .genQuery

/-- R117: the unassigned opcodes, and a set "must be 0" bit, make a word illegal; R341: an illegal word raises ILLEGAL_CMD
and changes nothing else, session or not; R117: it is still the accepted word, which CMD reads back. -/
def Obligations.IllegalWordRaisesAndChangesNothingElse : Prop :=
  (∀ w : Word,
    (let op := (w >>> 24).toNat
     (0x02 ≤ op ∧ op ≤ 0x0F) ∨ (0x14 ≤ op ∧ op ≤ 0x1F) ∨ (0x25 ≤ op ∧ op ≤ 0x2F) ∨ (0x32 ≤ op ∧ op ≤ 0x3F) ∨
     (0x41 ≤ op ∧ op ≤ 0x4F) ∨ (0x52 ≤ op ∧ op ≤ 0x5F) ∨ (0x61 ≤ op ∧ op ≤ 0x6F) ∨ (0x72 ≤ op ∧ op ≤ 0x7F) ∨
     (0x81 ≤ op ∧ op ≤ 0xFF)) → Word.legal w = false) ∧
  (∀ w : Word, ∀ f : Format, formatOfOpcode (opField w) = some f → w &&& f.reservedMask ≠ 0 → Word.legal w = false) ∧
  (∀ (w : Word) (s : State), Word.legal w = false →
    execute w s = .next { s with status := { s.status with result := false, err := 1, errAny := true, busy := false } } ∧
    (s.status.busy = false →
      issue w s = .next { s with
        cmd := w
        status := { s.status with result := false, err := 1, errAny := true, busy := false } }))

/-- R111: a CMD write while BUSY = 1 is dropped with OVR and nothing else changes; otherwise the word is accepted, BUSY is
set and the word executes. A command that has answered is complete, or waits in a flush, or hangs on its draws (R384). -/
def Obligations.CommandIssueDropsOrAccepts : Prop :=
  (∀ (w : Word) (s : State), s.status.busy = true →
    issue w s = .next { s with status := { s.status with ovr := true } }) ∧
  (∀ (w : Word) (s : State), s.status.busy = false →
    issue w s = execute w { s with cmd := w, status := { s.status with busy := true } }) ∧
  (∀ (i : Instr) (s t : State), exec i s = .next t →
    t.status.busy = false ∨ (∃ f, t.activity = .flushWait f) ∨ t.activity = .drawWait)

/-- A step in which the host writes to CMD, while BUSY = 0, a word that decodes to `i` is `exec i` on the state with the
write taken off the host's statements, the turn taken, the word in CMD and BUSY = 1 (R111, R381). -/
def Obligations.StepRunsTheDecodedCommand : Prop :=
  ∀ (s : State) (w : Word) (i : Instr) (rest : List HostStmt),
    nextTurn s = .host → s.host = .w32 0x020 w :: rest → s.status.busy = false → decode w = .ok i →
      step s = exec i { s with
        turns := s.turns.tail
        host := rest
        cmd := w
        status := { s.status with busy := true } }

/-- The word that withFetchWord places is the one the very next step runs, from any state. -/
def Obligations.PlacedWordRunsNext : Prop :=
  ∀ (s : State) (w : Word) (i : Instr), decode w = .ok i →
    decodeTableWord 32 w.toNat = some i ∧
    step (s.withFetchWord 32 w.toNat) = exec i { s with
      cmd := w
      activity := .idle
      status := { s.status with busy := true, flushReq := false } }

/-! ### Completion of commands (spec/00_scope.md R17, spec/60_exceptions.md) -/

/-- R17, R340: what `finish(b)` and `raise E` write, and that they write nothing else; the five error codes. -/
def Obligations.CompletionWritesStatusOnly : Prop :=
  (∀ (b : Bool) (s : State),
    s.finish b = { s with status := { s.status with result := b, err := 0, busy := false } }) ∧
  (∀ (e : Err) (s : State),
    s.raise e = { s with status := { s.status with result := false, err := e.code, errAny := true, busy := false } }) ∧
  Err.illegalCmd.code = 1 ∧ Err.notConfigured.code = 2 ∧ Err.badConfig.code = 3 ∧ Err.range.code = 4 ∧
  Err.ioFail.code = 5

/-- R342: without a session the session commands raise NOT_CONFIGURED and change nothing else; the other commands
answer whether or not there is a session, and never with that error. -/
def Obligations.SessionCommandsNeedASession : Prop :=
  (∀ s : State, s.session = none →
    exec .store s = .next (s.raise .notConfigured) ∧ exec .decodeGen s = .next (s.raise .notConfigured) ∧
    exec .decodeAll s = .next (s.raise .notConfigured) ∧ exec .encode s = .next (s.raise .notConfigured) ∧
    exec .flushGen s = .next (s.raise .notConfigured) ∧ exec .flushAll s = .next (s.raise .notConfigured) ∧
    exec .genQuery s = .next (s.raise .notConfigured)) ∧
  (∀ (i : Instr) (s : State),
    i ≠ .store → i ≠ .decodeGen → i ≠ .decodeAll → i ≠ .encode → i ≠ .flushGen → i ≠ .flushAll → i ≠ .genQuery →
      ∃ t, exec i s = .next t ∧ t.status.err ≠ Err.notConfigured.code)

/-- R33, R322: within the machine ERR_ANY goes from 1 to 0 only by CLR_STATUS, and no command but it clears OVR. -/
def Obligations.StickyBitsClearedByClrStatusOnly : Prop :=
  ∀ (i : Instr) (s t : State), exec i s = .next t → i ≠ .clrStatus →
    (s.status.errAny = true → t.status.errAny = true) ∧ t.status.ovr = s.status.ovr

/-- R34-R37, R43, R46, R47 and R89's registers: which registers commands write. No command writes ARG*, CFG_*, CTRL, CMD,
IO_CODE or the parameters; RESULT is written by GF_* only, PKT_* and the staging buffers by ENCODE only, Q_* by GEN_QUERY
only, FL_* by FLUSH_* only, the session by CFG_*, STORE and DECODE_* only. -/
def Obligations.CommandsWriteOnlyTheirRegisters : Prop :=
  ∀ (i : Instr) (s t : State), exec i s = .next t →
    (t.params = s.params ∧ t.ctrl = s.ctrl ∧ t.cmd = s.cmd ∧ t.ioCode = s.ioCode ∧
      t.arg0 = s.arg0 ∧ t.arg1 = s.arg1 ∧ t.arg2 = s.arg2 ∧ t.cfgBlockSize = s.cfgBlockSize ∧
      t.cfgBlocksPerGen = s.cfgBlocksPerGen ∧ t.cfgDataLength = s.cfgDataLength ∧
      t.host = s.host ∧ t.provider = s.provider ∧ t.turns = s.turns ∧ t.reads = s.reads) ∧
    (i.format ≠ .F → t.result = s.result) ∧
    (i ≠ .encode → t.pktGen = s.pktGen ∧ t.pktNumBlocks = s.pktNumBlocks ∧ t.pktBlockSize = s.pktBlockSize ∧
      t.dstg = s.dstg ∧ t.cstg = s.cstg ∧ t.coeffs = s.coeffs) ∧
    (i ≠ .genQuery → t.qGen = s.qGen ∧ t.qNumBlocks = s.qNumBlocks ∧ t.qRank = s.qRank ∧ t.qFlags = s.qFlags) ∧
    (i ≠ .flushGen → i ≠ .flushAll → t.flGen = s.flGen ∧ t.flStart = s.flStart ∧ t.flLength = s.flLength ∧
      t.flValid = s.flValid ∧ t.status.flushReq = s.status.flushReq) ∧
    (i ≠ .cfgEncoder → i ≠ .cfgDecoder → i ≠ .store → i ≠ .decodeGen → i ≠ .decodeAll → t.session = s.session) ∧
    (i.format ≠ .V → i ≠ .cfgEncoder → i ≠ .cfgDecoder → i ≠ .store → i ≠ .decodeGen → i ≠ .decodeAll → t.blk = s.blk)

/-! ### Scalar commands and the field (spec/40_field_scalar.md) -/

/-- R154, R155: GF_ADD and GF_SUB write the XOR to RESULT and finish with 1; nothing else changes. -/
def Obligations.GfAddAndSubWriteTheXor : Prop :=
  ∀ (a b : Byte) (s : State),
    exec (.gfAdd a b) s = .next { s with
      result := (a ^^^ b).setWidth 32
      status := { s.status with result := true, err := 0, busy := false } } ∧
    exec (.gfSub a b) s = .next { s with
      result := (a ^^^ b).setWidth 32
      status := { s.status with result := true, err := 0, busy := false } }

/-- R156, R157: GF_MUL and GF_DIV write gf_mul and gf_div to RESULT and finish with 1, whatever the operands; nothing
else changes. -/
def Obligations.GfMulAndDivWriteTheResult : Prop :=
  ∀ (a b : Byte) (s : State),
    exec (.gfMul a b) s = .next { s with
      result := (gfMul s.params.gfPoly a b).setWidth 32
      status := { s.status with result := true, err := 0, busy := false } } ∧
    exec (.gfDiv a b) s = .next { s with
      result := (gfDiv s.params.gfPoly a b).setWidth 32
      status := { s.status with result := true, err := 0, busy := false } }

/-- R150, R151, R159: for every legal GF_POLY the log of a nonzero byte is the unique exponent below 255 of 3 that gives
it, the antilog table holds the powers, it repeats after 255, and every index a product or quotient forms is in it. -/
def Obligations.TablesHoldLogsAndPowersOfThree : Prop :=
  ∀ p ∈ Config.legalPolys,
    (∀ x : Byte, x ≠ 0 → gfLog p x < 255 ∧ polyPow p (gfLog p x) = x ∧ ∀ e < 255, polyPow p e = x → e = gfLog p x) ∧
    (∀ i ≤ 509, gfAntilog p i = polyPow p (i % 255)) ∧
    (∀ i ≤ 254, gfAntilog p (i + 255) = gfAntilog p i) ∧
    (∀ x y : Byte, x ≠ 0 → y ≠ 0 →
      gfLog p x + gfLog p y ≤ 508 ∧ 1 ≤ gfLog p x + 255 - gfLog p y ∧ gfLog p x + 255 - gfLog p y ≤ 509)

/-- R152: gf_mul by its table formula, and that it is the product of polynomials modulo GF_POLY, for every legal one. -/
def Obligations.MultiplicationIsThePolynomialProduct : Prop :=
  ∀ p ∈ Config.legalPolys, ∀ x y : Byte,
    (x = 0 ∨ y = 0 → gfMul p x y = 0) ∧
    (x ≠ 0 → y ≠ 0 → gfMul p x y = gfAntilog p (gfLog p x + gfLog p y)) ∧
    gfMul p x y = polyMul p x y

/-- R153: gf_div by its table formula, the division by zero convention, and that a quotient by a nonzero byte is the
unique z with gf_mul(z, y) = x. -/
def Obligations.DivisionGivesTheUniqueQuotient : Prop :=
  ∀ p ∈ Config.legalPolys, ∀ x y : Byte,
    (x = 0 ∨ y = 0 → gfDiv p x y = 0) ∧
    (x ≠ 0 → y ≠ 0 → ∀ i : Nat, (i : Int) = (gfLog p x : Int) - gfLog p y + 255 → gfDiv p x y = gfAntilog p i) ∧
    (y ≠ 0 → gfMul p (gfDiv p x y) y = x ∧ ∀ z, gfMul p z y = x → z = gfDiv p x y)

/-- R158: the field laws, for every legal GF_POLY; item 7 is that XOR is its own inverse, so -a = a. -/
def Obligations.FieldLawsHold : Prop :=
  ∀ p ∈ Config.legalPolys, ∀ a b c : Byte,
    (gfAdd a b = gfAdd b a ∧ gfAdd (gfAdd a b) c = gfAdd a (gfAdd b c) ∧ gfAdd a 0 = a ∧ gfAdd a a = 0) ∧
    (gfMul p a b = gfMul p b a ∧ gfMul p (gfMul p a b) c = gfMul p a (gfMul p b c) ∧
      gfMul p a 1 = a ∧ gfMul p a 0 = 0) ∧
    gfMul p a (gfAdd b c) = gfAdd (gfMul p a b) (gfMul p a c) ∧
    (gfMul p a b = 0 ↔ a = 0 ∨ b = 0) ∧
    (b ≠ 0 → gfMul p (gfDiv p a b) b = a ∧ gfDiv p a b = gfMul p a (gfDiv p 1 b)) ∧
    (gfDiv p a 0 = 0 ∧ gfDiv p 0 b = 0 ∧ (a ≠ 0 → gfMul p (gfDiv p a 0) 0 ≠ a)) ∧
    (∀ x : Byte, gfAdd a x = 0 → x = a)

/-- R8: of the polynomials of degree 8, the legal ones are exactly those under which the powers of 3 run through every
nonzero byte and never give 0. -/
def Obligations.LegalPolynomialsAreThoseThreeGenerates : Prop :=
  ∀ p : BitVec 9, p.getLsbD 8 = true →
    (p ∈ Config.legalPolys ↔ (∀ e, polyPow p e ≠ 0) ∧ ∀ x : Byte, x ≠ 0 → ∃ e < 255, polyPow p e = x)

/-! ### Vector commands (spec/41_field_vector.md) -/

/-- R180, R183-R185: with dst + n within block memory V_SCALE, V_ADDS and V_SUBS rewrite exactly the bytes dst .. dst+n-1,
each from its own old value, and finish with 1; otherwise they raise RANGE and change nothing else. -/
def Obligations.InPlaceVectorCommandsRewriteTheirRange : Prop :=
  ∀ (c : Byte) (s : State), s.blk.wf = true →
    (s.arg0.toNat + s.arg2.toNat ≤ s.params.maxBuffer →
      (∃ m : Memory,
        exec (.vScale c) s = .next (State.finish true { s with blk := m }) ∧
        ∀ a, m.read a = if s.arg0.toNat ≤ a ∧ a < s.arg0.toNat + s.arg2.toNat
          then gfMul s.params.gfPoly c (s.blk.read a) else s.blk.read a) ∧
      (∃ m : Memory,
        exec (.vAdds c) s = .next (State.finish true { s with blk := m }) ∧
        exec (.vSubs c) s = .next (State.finish true { s with blk := m }) ∧
        ∀ a, m.read a = if s.arg0.toNat ≤ a ∧ a < s.arg0.toNat + s.arg2.toNat
          then s.blk.read a ^^^ c else s.blk.read a)) ∧
    (s.params.maxBuffer < s.arg0.toNat + s.arg2.toNat →
      exec (.vScale c) s = .next (s.raise .range) ∧ exec (.vAdds c) s = .next (s.raise .range) ∧
      exec (.vSubs c) s = .next (s.raise .range))

/-- R182, R186, R187: V_ADDMUL and V_SUBMUL process the elements in ascending order, each reading what the elements before
it left, and finish with 1; where src and dst are disjoint or identical every element comes from the old values. -/
def Obligations.FusedMultiplyAddRunsInAscendingOrder : Prop :=
  ∀ (c : Byte) (s : State), s.blk.wf = true → s.params.gfPoly ∈ Config.legalPolys →
    s.arg0.toNat + s.arg2.toNat ≤ s.params.maxBuffer → s.arg1.toNat + s.arg2.toNat ≤ s.params.maxBuffer →
    ∃ mem : Nat → Memory,
      mem 0 = s.blk ∧
      (∀ i < s.arg2.toNat, ∀ a, (mem (i + 1)).read a =
        if a = s.arg0.toNat + i then
          (mem i).read (s.arg0.toNat + i) ^^^ gfMul s.params.gfPoly c ((mem i).read (s.arg1.toNat + i))
        else (mem i).read a) ∧
      exec (.vAddmul c) s = .next (State.finish true { s with blk := mem s.arg2.toNat }) ∧
      exec (.vSubmul c) s = .next (State.finish true { s with blk := mem s.arg2.toNat }) ∧
      ((s.arg0.toNat + s.arg2.toNat ≤ s.arg1.toNat ∨ s.arg1.toNat + s.arg2.toNat ≤ s.arg0.toNat ∨ s.arg0 = s.arg1) →
        ∀ i < s.arg2.toNat, (mem s.arg2.toNat).read (s.arg0.toNat + i) =
          s.blk.read (s.arg0.toNat + i) ^^^ gfMul s.params.gfPoly c (s.blk.read (s.arg1.toNat + i))) ∧
      (s.arg0 = s.arg1 → ∀ i < s.arg2.toNat, (mem s.arg2.toNat).read (s.arg0.toNat + i) =
          gfMul s.params.gfPoly (c ^^^ 1) (s.blk.read (s.arg0.toNat + i)))

/-- R180, R344: V_ADDMUL and V_SUBMUL raise RANGE if dst + n or src + n leaves block memory, with C = 0 as with any other
C, and nothing else changes: ARG0, ARG1 and ARG2 keep the operands. -/
def Obligations.FusedMultiplyAddChecksBothRanges : Prop :=
  ∀ (c : Byte) (s : State),
    (s.params.maxBuffer < s.arg0.toNat + s.arg2.toNat ∨ s.params.maxBuffer < s.arg1.toNat + s.arg2.toNat) →
      exec (.vAddmul c) s = .next (s.raise .range) ∧ exec (.vSubmul c) s = .next (s.raise .range)

/-! ### Configuration (spec/42_session_config.md) -/

/-- R210, R211: the partition arithmetic. The blocks just hold the data and the generations just hold the blocks; n[g]; a
generation's slots are its byte range; padding is in the last slot only; every slot is in exactly one generation. -/
def Obligations.PartitionArithmetic : Prop :=
  ∀ ses : Session, 0 < ses.blockSize → 0 < ses.blocksPerGen → 0 < ses.dataLength →
    (ses.dataLength ≤ ses.numBlocks * ses.blockSize ∧ (ses.numBlocks - 1) * ses.blockSize < ses.dataLength) ∧
    (ses.numBlocks ≤ ses.numGenerations * ses.blocksPerGen ∧
      (ses.numGenerations - 1) * ses.blocksPerGen < ses.numBlocks) ∧
    ses.bufferSize = ses.numBlocks * ses.blockSize ∧
    (ses.partialLastBlock = true ↔ ses.dataLength % ses.blockSize ≠ 0) ∧
    (ses.partialLastGen = true ↔ ses.numBlocks % ses.blocksPerGen ≠ 0) ∧
    (∀ g, g + 1 < ses.numGenerations → ses.blocksOf g = ses.blocksPerGen) ∧
    ses.blocksOf (ses.numGenerations - 1) = ses.numBlocks - ses.blocksPerGen * (ses.numGenerations - 1) ∧
    (∀ g < ses.numGenerations, 1 ≤ ses.blocksOf g ∧ ses.blocksOf g ≤ ses.blocksPerGen) ∧
    (∀ g < ses.numGenerations, ∀ i < ses.blocksOf g,
      ses.slotOffset g i = g * ses.blocksPerGen * ses.blockSize + i * ses.blockSize ∧
      ses.slotOffset g i + ses.blockSize ≤ ses.bufferSize) ∧
    ses.bufferSize - ses.dataLength = (ses.blockSize - ses.dataLength % ses.blockSize) % ses.blockSize ∧
    (∀ k < ses.numBlocks, ∃ g < ses.numGenerations, ∃ i < ses.blocksOf g, k = ses.blocksPerGen * g + i ∧
      ∀ g' < ses.numGenerations, ∀ i' < ses.blocksOf g', k = ses.blocksPerGen * g' + i' → g' = g ∧ i' = i)

/-- R213, R345: CFG_ENCODER and CFG_DECODER raise BAD_CONFIG, and change nothing else, if a check fails on the unbounded
values of the CFG_* registers, and otherwise finish with 1. -/
def Obligations.ConfigurationIsValidated : Prop :=
  ∀ (s : State) (bs bpg len numBlocks numGens : Nat),
    bs = s.cfgBlockSize.toNat → bpg = s.cfgBlocksPerGen.toNat → len = s.cfgDataLength.toNat →
    numBlocks = (len + bs - 1) / bs → numGens = (numBlocks + bpg - 1) / bpg →
    ((bs = 0 ∨ bpg = 0 ∨ len = 0 ∨ s.params.maxBlockSize < bs ∨ s.params.maxGenBlocks < bpg ∨
        s.params.maxBuffer < numBlocks * bs ∨ s.params.maxGenerations < numGens) →
      exec .cfgEncoder s = .next (s.raise .badConfig) ∧ exec .cfgDecoder s = .next (s.raise .badConfig)) ∧
    (¬ (bs = 0 ∨ bpg = 0 ∨ len = 0 ∨ s.params.maxBlockSize < bs ∨ s.params.maxGenBlocks < bpg ∨
        s.params.maxBuffer < numBlocks * bs ∨ s.params.maxGenerations < numGens) →
      (∃ ses m, exec .cfgEncoder s = .next (State.finish true { s with session := some ses, blk := m })) ∧
      (∃ ses m, exec .cfgDecoder s = .next (State.finish true { s with session := some ses, blk := m })))

/-- R212, R214: what CFG_ENCODER creates: the captured session, identity matrices, full ranks, decoded generations, a zero
tail and no other byte written; the flags after. -/
def Obligations.CfgEncoderCreatesAnEncoderSession : Prop :=
  ∀ s : State, validConfig s.params s.cfgBlockSize.toNat s.cfgBlocksPerGen.toNat s.cfgDataLength.toNat = true →
    ∃ (ses : Session) (m : Memory),
      exec .cfgEncoder s = .next (State.finish true { s with session := some ses, blk := m }) ∧
      ses.mode = .encoder ∧ ses.blockSize = s.cfgBlockSize.toNat ∧ ses.blocksPerGen = s.cfgBlocksPerGen.toNat ∧
      ses.dataLength = s.cfgDataLength.toNat ∧ ses.gens.length = ses.numGenerations ∧
      (∀ g < ses.numGenerations, (ses.gen g).rank = ses.blocksOf g ∧ (ses.gen g).decoded = true ∧
        Matrix.Square (ses.blocksOf g) (ses.gen g).matrix ∧
        ∀ i < ses.blocksOf g, ∀ j < ses.blocksOf g, Matrix.entry (ses.gen g).matrix i j = if i = j then 1 else 0) ∧
      (∀ a, m.read a = if ses.dataLength ≤ a ∧ a < ses.bufferSize then 0 else s.blk.read a) ∧
      ses.canDecode = true ∧ ses.allDecoded = true ∧ ses.gensCompleted = ses.numGenerations

/-- R212, R215: what CFG_DECODER creates: the captured session, zero matrices, ranks 0, no decoded generation, a zero
buffer and no other byte written; the flags after. -/
def Obligations.CfgDecoderCreatesADecoderSession : Prop :=
  ∀ s : State, validConfig s.params s.cfgBlockSize.toNat s.cfgBlocksPerGen.toNat s.cfgDataLength.toNat = true →
    ∃ (ses : Session) (m : Memory),
      exec .cfgDecoder s = .next (State.finish true { s with session := some ses, blk := m }) ∧
      ses.mode = .decoder ∧ ses.blockSize = s.cfgBlockSize.toNat ∧ ses.blocksPerGen = s.cfgBlocksPerGen.toNat ∧
      ses.dataLength = s.cfgDataLength.toNat ∧ ses.gens.length = ses.numGenerations ∧
      (∀ g < ses.numGenerations, (ses.gen g).rank = 0 ∧ (ses.gen g).decoded = false ∧
        Matrix.Square (ses.blocksOf g) (ses.gen g).matrix ∧
        ∀ i < ses.blocksOf g, ∀ j < ses.blocksOf g, Matrix.entry (ses.gen g).matrix i j = 0) ∧
      (∀ a, m.read a = if a < ses.bufferSize then 0 else s.blk.read a) ∧
      ses.canDecode = false ∧ ses.allDecoded = false ∧ ses.gensCompleted = 0

/-! ### STORE (spec/43_store_elimination.md) -/

/-- R241: a packet that names no generation, or the wrong block count or block size, gives 0, and nothing is written; so
it does for a complete generation. -/
def Obligations.StoreRejectsMismatchedPackets : Prop :=
  ∀ (s : State) (ses : Session), s.session = some ses →
    (ses.numGenerations ≤ s.pktGen.toNat ∨ s.pktNumBlocks.toNat ≠ ses.blocksOf s.pktGen.toNat ∨
        s.pktBlockSize.toNat ≠ ses.blockSize) →
      exec .store s = .next (s.finish false)

/-- R242: a valid packet for a complete generation gives 1, and nothing is written. -/
def Obligations.StoreAcceptsACompleteGenerationTrivially : Prop :=
  ∀ (s : State) (ses : Session), s.session = some ses →
    s.pktGen.toNat < ses.numGenerations → s.pktNumBlocks.toNat = ses.blocksOf s.pktGen.toNat →
    s.pktBlockSize.toNat = ses.blockSize → (ses.gen s.pktGen.toNat).rank = ses.blocksOf s.pktGen.toNat →
      exec .store s = .next (s.finish true)

/-- R247: from a state whose matrices meet the invariants of R44, STORE by scratch matrix, recorded row operations and
commit (R243-R246, R248) is the single-row form. -/
def Obligations.StoreEqualsItsSingleRowForm : Prop :=
  ∀ (s : State) (ses : Session), s.session = some ses → s.params.Legal → s.blk.wf = true → ses.Ok s.params →
    s.pktGen.toNat < ses.numGenerations → s.pktNumBlocks.toNat = ses.blocksOf s.pktGen.toNat →
    s.pktBlockSize.toNat = ses.blockSize → (ses.gen s.pktGen.toNat).rank < ses.blocksOf s.pktGen.toNat →
      exec .store s = .next (singleRowStore ses s.pktGen.toNat s)

/-- R41, R250 items 1 and 2, and the frame of STORE (R89): it changes the session, BLK and STATUS only; in the session
only the packet's generation, whose rank stays or grows by exactly 1; and it finishes with 1 where it grows. -/
def Obligations.StoreChangesOneRankByAtMostOne : Prop :=
  ∀ (s : State) (ses : Session), s.session = some ses → ses.gens.length = ses.numGenerations →
    ∃ (ses' : Session) (m : Memory) (b : Bool),
      exec .store s = .next (State.finish b { s with session := some ses', blk := m }) ∧
      (∀ h, h ≠ s.pktGen.toNat → ses'.gen h = ses.gen h) ∧
      (ses'.gen s.pktGen.toNat).decoded = (ses.gen s.pktGen.toNat).decoded ∧
      ses' = { ses with gens := ses'.gens } ∧ ses'.gens.length = ses.gens.length ∧
      ((ses'.gen s.pktGen.toNat = ses.gen s.pktGen.toNat) ∨
        ((ses'.gen s.pktGen.toNat).rank = (ses.gen s.pktGen.toNat).rank + 1 ∧ b = true))

/-- R89, R245: from a state that meets the invariants of R44, STORE writes no BLK byte outside the slot of row rank[g]. -/
def Obligations.StoreWritesOneSlotOnly : Prop :=
  ∀ (s t : State) (ses : Session), s.session = some ses → s.params.Legal → s.blk.wf = true → ses.Ok s.params →
    exec .store s = .next t →
      ∀ a, (a < ses.slotOffset s.pktGen.toNat (ses.gen s.pktGen.toNat).rank ∨
          ses.slotOffset s.pktGen.toNat (ses.gen s.pktGen.toNat).rank + ses.blockSize ≤ a) →
        t.blk.read a = s.blk.read a

/-- R248, R250 item 3: a packet whose coefficients are a combination of the accepted rows is rejected: the result is 0,
its slot keeps the packet data, and nothing else changes. -/
def Obligations.RedundantPacketsAreRejected : Prop :=
  ∀ (s : State) (ses : Session) (g : Nat) (u : Nat → Byte), s.session = some ses → s.params.Legal →
    s.blk.wf = true → ses.Ok s.params → g = s.pktGen.toNat → g < ses.numGenerations →
    s.pktNumBlocks.toNat = ses.blocksOf g → s.pktBlockSize.toNat = ses.blockSize →
    (ses.gen g).rank < ses.blocksOf g →
    (∀ j < ses.blocksOf g, s.cstg.read j =
      xorSum (ses.gen g).rank (fun i => gfMul s.params.gfPoly (u i) (Matrix.entry (ses.gen g).matrix i j))) →
      exec .store s = .next (State.finish false { s with
        blk := ses.writeBlk s.blk g (ses.gen g).rank (s.packetData ses.blockSize) })

/-- R249: with rank 0 a packet whose first coefficient is 0 is rejected, independent or not, and one whose first
coefficient is not 0 is accepted. -/
def Obligations.FirstPacketNeedsANonzeroFirstCoefficient : Prop :=
  ∀ (s : State) (ses : Session) (g : Nat), s.session = some ses → s.params.Legal → s.blk.wf = true →
    ses.Ok s.params → g = s.pktGen.toNat → g < ses.numGenerations →
    s.pktNumBlocks.toNat = ses.blocksOf g → s.pktBlockSize.toNat = ses.blockSize → (ses.gen g).rank = 0 →
      ∃ (ses' : Session) (m : Memory),
        exec .store s = .next (State.finish (s.cstg.read 0 != 0) { s with session := some ses', blk := m }) ∧
        (ses'.gen g).rank = (if s.cstg.read 0 = 0 then 0 else 1)

/-- R44 item 4, R246: a consistent packet keeps the accepted rows of its generation consistent with the original
blocks, accepted or not. -/
def Obligations.StoreKeepsRowsConsistent : Prop :=
  ∀ (s t : State) (ses : Session) (orig : Nat → Nat → Byte), s.session = some ses → s.params.Legal →
    s.blk.wf = true → ses.Ok s.params → s.pktGen.toNat < ses.numGenerations →
    ses.Consistent s.params.gfPoly s.blk s.pktGen.toNat orig →
    s.PacketConsistent (ses.blocksOf s.pktGen.toNat) ses.blockSize orig →
    exec .store s = .next t →
      ∃ ses', t.session = some ses' ∧ ses'.Consistent s.params.gfPoly t.blk s.pktGen.toNat orig

/-! ### DECODE (spec/44_decode.md) -/

/-- R270: DECODE_GEN gives 0 for a generation out of range or of insufficient rank, and 1 for a decoded one; in none of
these cases is anything written. -/
def Obligations.DecodeGenWithoutWorkWritesNothing : Prop :=
  ∀ (s : State) (ses : Session), s.session = some ses →
    (ses.numGenerations ≤ s.arg0.toNat → exec .decodeGen s = .next (s.finish false)) ∧
    (s.arg0.toNat < ses.numGenerations → (ses.gen s.arg0.toNat).decoded = true →
      exec .decodeGen s = .next (s.finish true)) ∧
    (s.arg0.toNat < ses.numGenerations → (ses.gen s.arg0.toNat).decoded = false →
      (ses.gen s.arg0.toNat).rank < ses.blocksOf s.arg0.toNat → exec .decodeGen s = .next (s.finish false))

/-- R271, R272, R274 items 2 and 4, R89: DECODE_GEN of a complete generation whose rows are consistent with the original
blocks puts original block i into slot i, makes the matrix the identity and the generation decoded, keeps its rank, and
changes no other generation, no BLK byte outside the generation's slots and nothing else. -/
def Obligations.DecodeGenRecoversTheOriginalBlocks : Prop :=
  ∀ (s : State) (ses : Session) (g : Nat) (orig : Nat → Nat → Byte), s.session = some ses → s.params.Legal →
    s.blk.wf = true → ses.Ok s.params → g = s.arg0.toNat → g < ses.numGenerations →
    (ses.gen g).decoded = false → (ses.gen g).rank = ses.blocksOf g →
    ses.Consistent s.params.gfPoly s.blk g orig →
      ∃ (ses' : Session) (m : Memory),
        exec .decodeGen s = .next (State.finish true { s with session := some ses', blk := m }) ∧
        (∀ i < ses.blocksOf g, ∀ b < ses.blockSize, m.read (ses.slotOffset g i + b) = orig i b) ∧
        (∀ a, (∀ i < ses.blocksOf g, a < ses.slotOffset g i ∨ ses.slotOffset g i + ses.blockSize ≤ a) →
          m.read a = s.blk.read a) ∧
        (ses'.gen g).decoded = true ∧ (ses'.gen g).rank = ses.blocksOf g ∧
        (ses'.gen g).matrix = Matrix.identity (ses.blocksOf g) ∧
        (∀ h, h ≠ g → ses'.gen h = ses.gen h) ∧ ses' = { ses with gens := ses'.gens }

/-- R274 item 1: a DECODE_GEN that gave 1 gives 1 again and then changes nothing at all. -/
def Obligations.DecodeGenIsIdempotent : Prop :=
  ∀ (s t : State) (ses : Session), s.session = some ses → ses.gens.length = ses.numGenerations →
    exec .decodeGen s = .next t → t.status.result = true → exec .decodeGen t = .next t

/-- R273, R270, R272, R275: DECODE_ALL attempts every generation and finishes with 1 exactly where every generation is
complete. A complete generation is decoded after it, and the slots of one that was not decoded before hold the original
blocks its rows were consistent with; an incomplete one keeps its state; the slots of an incomplete or an already decoded
one are not written; no rank, no byte beyond the buffer and nothing else of the session or the state changes. -/
def Obligations.DecodeAllAttemptsEveryGeneration : Prop :=
  ∀ (s : State) (ses : Session), s.session = some ses → s.params.Legal → s.blk.wf = true → ses.Ok s.params →
    ∃ (ses' : Session) (m : Memory) (b : Bool),
      exec .decodeAll s = .next (State.finish b { s with session := some ses', blk := m }) ∧
      (b = true ↔ ∀ g < ses.numGenerations, (ses.gen g).rank = ses.blocksOf g) ∧
      ses' = { ses with gens := ses'.gens } ∧ ses'.gens.length = ses.gens.length ∧
      (∀ g < ses.numGenerations,
        (ses'.gen g).rank = (ses.gen g).rank ∧
        ((ses.gen g).rank = ses.blocksOf g →
          (ses'.gen g).decoded = true ∧ (ses'.gen g).matrix = Matrix.identity (ses.blocksOf g)) ∧
        ((ses.gen g).rank < ses.blocksOf g → ses'.gen g = ses.gen g) ∧
        ((ses.gen g).rank < ses.blocksOf g ∨ (ses.gen g).decoded = true →
          ∀ i < ses.blocksOf g, ∀ o < ses.blockSize,
            m.read (ses.slotOffset g i + o) = s.blk.read (ses.slotOffset g i + o)) ∧
        ((ses.gen g).rank = ses.blocksOf g → (ses.gen g).decoded = false →
          ∀ orig : Nat → Nat → Byte, ses.Consistent s.params.gfPoly s.blk g orig →
            ∀ i < ses.blocksOf g, ∀ o < ses.blockSize, m.read (ses.slotOffset g i + o) = orig i o)) ∧
      (∀ a, ses.bufferSize ≤ a → m.read a = s.blk.read a)

/-! ### ENCODE (spec/45_encode.md) -/

/-- R290, R293, R295: ENCODE of a generation out of range gives 0 and writes nothing; of a generation of rank 0 it gives 0
and writes the header registers only; neither draws. -/
def Obligations.EncodeWithNothingToEncode : Prop :=
  ∀ (s : State) (ses : Session), s.session = some ses →
    (ses.numGenerations ≤ s.arg0.toNat → exec .encode s = .next (s.finish false)) ∧
    (s.arg0.toNat < ses.numGenerations → (ses.gen s.arg0.toNat).rank = 0 →
      exec .encode s = .next (State.finish false { s with
        pktGen := s.arg0
        pktNumBlocks := BitVec.ofNat 32 (ses.blocksOf s.arg0.toNat)
        pktBlockSize := BitVec.ofNat 32 ses.blockSize }))

/-- R290-R293: ENCODE with the coefficients it draws writes their linear combinations of the accepted rows into DSTG and
CSTG, leaves the staging bytes beyond them, and changes nothing else but the header registers and the source. -/
def Obligations.EncodeWritesTheLinearCombination : Prop :=
  ∀ (s : State) (ses : Session) (g r : Nat) (c : List Byte) (src : CoeffSource), s.session = some ses →
    s.dstg.wf = true → s.cstg.wf = true → g = s.arg0.toNat → g < ses.numGenerations →
    r = (ses.gen g).rank → 0 < r → r ≤ ses.blocksOf g → Matrix.Square (ses.blocksOf g) (ses.gen g).matrix →
    drawCoeffs r s.coeffs = some (c, src) →
      ∃ d k : Memory,
        exec .encode s = .next (State.finish true { s with
          pktGen := s.arg0
          pktNumBlocks := BitVec.ofNat 32 (ses.blocksOf g)
          pktBlockSize := BitVec.ofNat 32 ses.blockSize
          coeffs := src
          dstg := d
          cstg := k }) ∧
        (∀ b, d.read b = if b < ses.blockSize
          then xorSum r (fun i => gfMul s.params.gfPoly (c.getD i 0) (s.blk.read (ses.slotOffset g i + b)))
          else s.dstg.read b) ∧
        (∀ j, k.read j = if j < ses.blocksOf g
          then xorSum r (fun i => gfMul s.params.gfPoly (c.getD i 0) (Matrix.entry (ses.gen g).matrix i j))
          else s.cstg.read j)

/-- R292, R293: `r` draws give exactly r coefficients, all nonzero; zero bytes before a nonzero one are drawn and leave
no trace; a source that is not dead always yields them. -/
def Obligations.DrawsAreNonzeroAndSkipZeros : Prop :=
  (∀ (r : Nat) (src src' : CoeffSource) (c : List Byte), drawCoeffs r src = some (c, src') →
    c.length = r ∧ ∀ b ∈ c, b ≠ 0) ∧
  (∀ (z : Nat) (b : Byte) (rest : List Byte) (src : CoeffSource), b ≠ 0 →
    src.queued = List.replicate z 0 ++ b :: rest → sampleNonzero src = some (b, { src with queued := rest })) ∧
  (∀ (r : Nat) (src : CoeffSource), src.dead = false → ∃ c src', drawCoeffs r src = some (c, src'))

/-- R295, R384 item 2: where the source never yields enough nonzero bytes ENCODE does not complete: BUSY is 1 and DSTG and
CSTG are as they were; and from such a state every step that is no reset leaves the core so. -/
def Obligations.EncodeHangsOnADeadSource : Prop :=
  (∀ (s : State) (ses : Session) (g : Nat), s.session = some ses → g = s.arg0.toNat → g < ses.numGenerations →
    0 < (ses.gen g).rank → s.coeffs.dead = true →
    s.coeffs.queued.countP (fun b => b != 0) < (ses.gen g).rank →
      ∃ t, exec .encode s = .next t ∧ t.status.busy = true ∧ t.activity = .drawWait ∧ t.dstg = s.dstg ∧
        t.cstg = s.cstg ∧ t.blk = s.blk ∧ t.session = s.session ∧ t.pktGen = s.arg0) ∧
  (∀ s t : State, s.activity = .drawWait → s.status.busy = true → s.status.flushReq = false →
    step s = .next t → (∀ c, nextTurn s ≠ .reset c) →
      t.activity = .drawWait ∧ t.status.busy = true ∧ t.status.flushReq = false ∧
      t.session = s.session ∧ t.blk = s.blk ∧ t.dstg = s.dstg ∧ t.cstg = s.cstg)

/-- R294 items 1 and 4: a packet encoded from rows consistent with the original blocks is itself consistent with them,
and its header names its generation. -/
def Obligations.EncodedPacketsAreConsistent : Prop :=
  ∀ (s : State) (ses : Session) (g : Nat) (orig : Nat → Nat → Byte), s.session = some ses → s.params.Legal →
    s.MemoriesOk → ses.Ok s.params → g = s.arg0.toNat → g < ses.numGenerations → 0 < (ses.gen g).rank →
    s.coeffs.dead = false → ses.Consistent s.params.gfPoly s.blk g orig →
      ∃ t, exec .encode s = .next t ∧ t.status.result = true ∧ t.status.err = 0 ∧
        t.PacketConsistent (ses.blocksOf g) ses.blockSize orig ∧
        t.pktGen.toNat = g ∧ t.pktNumBlocks.toNat = ses.blocksOf g ∧ t.pktBlockSize.toNat = ses.blockSize

/-- R294 items 2 and 3: from a decoded generation the coefficients written are the drawn ones, all nonzero; from any
other one the first coefficient written is nonzero. -/
def Obligations.EncodedCoefficientsAreNotAllZero : Prop :=
  ∀ (s t : State) (ses : Session) (g : Nat) (c : List Byte) (src : CoeffSource), s.session = some ses →
    s.params.Legal → s.MemoriesOk → ses.Ok s.params → g = s.arg0.toNat → g < ses.numGenerations →
    0 < (ses.gen g).rank → drawCoeffs (ses.gen g).rank s.coeffs = some (c, src) → exec .encode s = .next t →
      t.status.result = true ∧ t.cstg.read 0 ≠ 0 ∧
      ((ses.gen g).decoded = true → ∀ j < ses.blocksOf g, t.cstg.read j = c.getD j 0 ∧ t.cstg.read j ≠ 0)

/-! ### FLUSH, GEN_QUERY and housekeeping (spec/46_flush_query.md) -/

/-- R310, R314, R316: FLUSH_GEN gives 0 for a generation out of range or not decoded, whatever FLUSH_HS holds; 1 for a
decoded one with FLUSH_HS = 0; and with FLUSH_HS = 1 it raises the request and waits with BUSY = 1. -/
def Obligations.FlushGenFinishesOrRequests : Prop :=
  ∀ (s : State) (ses : Session) (g : Nat), s.session = some ses → g = s.arg0.toNat →
    (ses.numGenerations ≤ g → exec .flushGen s = .next (s.finish false)) ∧
    (g < ses.numGenerations → (ses.gen g).decoded = false → exec .flushGen s = .next (s.finish false)) ∧
    (g < ses.numGenerations → (ses.gen g).decoded = true → s.ctrl.getLsbD 0 = false →
      exec .flushGen s = .next (s.finish true)) ∧
    (g < ses.numGenerations → (ses.gen g).decoded = true → s.ctrl.getLsbD 0 = true →
      exec .flushGen s = .next { s with
        flGen := s.arg0
        flStart := BitVec.ofNat 32 (ses.flushStart g)
        flLength := BitVec.ofNat 32 (ses.flushLength g)
        flValid := BitVec.ofNat 32 (ses.flushValid g)
        status := { s.status with flushReq := true, busy := true }
        activity := .flushWait (.gen g) })

/-- R312: the flush range of a generation: its start, length and valid bytes, which are all of it unless the generation is
the last one and the last block is partial; and in a valid session the FL_* registers hold them without wrapping. -/
def Obligations.FlushRangeCoversTheGeneration : Prop :=
  ∀ (p : Config.Params) (ses : Session) (g : Nat), p.Legal →
    validConfig p ses.blockSize ses.blocksPerGen ses.dataLength = true → g < ses.numGenerations →
    ses.flushStart g = g * ses.blocksPerGen * ses.blockSize ∧
    ses.flushLength g = ses.blocksOf g * ses.blockSize ∧
    ses.flushValid g = min (ses.flushStart g + ses.flushLength g) ses.dataLength - ses.flushStart g ∧
    1 ≤ ses.flushValid g ∧ ses.flushValid g ≤ ses.flushLength g ∧
    (ses.flushValid g < ses.flushLength g ↔ g = ses.numGenerations - 1 ∧ ses.partialLastBlock = true) ∧
    (BitVec.ofNat 32 (ses.flushStart g)).toNat = ses.flushStart g ∧
    (BitVec.ofNat 32 (ses.flushLength g)).toNat = ses.flushLength g ∧
    (BitVec.ofNat 32 (ses.flushValid g)).toNat = ses.flushValid g

/-- R315, R381: a FLUSH_ACK write without a request is ignored; with one it ends the request, and the core's next step
raises IO_FAIL with the value in IO_CODE, FL_* kept, or lets FLUSH_GEN finish with 1. That the value reaches IO_CODE in the
core's step is the model's reading of R381 (log 6). -/
def Obligations.AcknowledgementEndsTheRequest : Prop :=
  (∀ (v : Word) (s : State), s.status.flushReq = false → acknowledge v s = s) ∧
  (∀ (v : Word) (s : State) (f : FlushCmd), s.status.flushReq = true → s.activity = .flushWait f →
    acknowledge v s = { s with status := { s.status with flushReq := false }, activity := .flushAcked f v }) ∧
  (∀ (v : Word) (s : State) (f : FlushCmd), s.activity = .flushAcked f v → v ≠ 0 →
    coreStep s = { s with
      activity := .idle
      ioCode := v
      status := { s.status with result := false, err := 5, errAny := true, busy := false } }) ∧
  (∀ (s : State) (g : Nat), s.activity = .flushAcked (.gen g) 0 →
    coreStep s = { s with
      activity := .idle
      status := { s.status with result := true, err := 0, busy := false } })

/-- R311: FLUSH_ALL with FLUSH_HS = 0 finishes with 1 exactly where every generation is decoded. With FLUSH_HS = 1 it
requests the first decoded generation; after an answer 0 for generation g it requests the next decoded one, keeping the
running result; and where none is left it finishes with the conjunction over all of them. -/
def Obligations.FlushAllVisitsGenerationsInOrder : Prop :=
  (∀ (s : State) (ses : Session), s.session = some ses → s.ctrl.getLsbD 0 = false →
    exec .flushAll s = .next (s.finish ses.allDecoded)) ∧
  (∀ (s : State) (ses : Session) (g : Nat), s.session = some ses → s.ctrl.getLsbD 0 = true →
    g < ses.numGenerations → (ses.gen g).decoded = true → (∀ h < g, (ses.gen h).decoded = false) →
      exec .flushAll s = .next (s.requestFlush ses (.all g (decide (g = 0))) g)) ∧
  (∀ (s : State) (ses : Session), s.session = some ses → s.ctrl.getLsbD 0 = true →
    (∀ h < ses.numGenerations, (ses.gen h).decoded = false) →
      exec .flushAll s = .next (s.finish (decide (ses.numGenerations = 0)))) ∧
  (∀ (s : State) (ses : Session) (g g' : Nat) (ok : Bool), s.session = some ses → s.ctrl.getLsbD 0 = true →
    s.activity = .flushAcked (.all g ok) 0 → g < g' → g' < ses.numGenerations → (ses.gen g').decoded = true →
    (∀ h, g < h → h < g' → (ses.gen h).decoded = false) →
      coreStep s = State.requestFlush ses (.all g' (ok && decide (g' = g + 1))) g' { s with activity := .idle }) ∧
  (∀ (s : State) (ses : Session) (g : Nat) (ok : Bool), s.session = some ses → s.ctrl.getLsbD 0 = true →
    s.activity = .flushAcked (.all g ok) 0 → g < ses.numGenerations →
    (∀ h, g < h → h < ses.numGenerations → (ses.gen h).decoded = false) →
      coreStep s = State.finish (ok && decide (g + 1 = ses.numGenerations)) { s with activity := .idle })

/-- R314, R315, R380, R384: while a request is pending, only a FLUSH_ACK write ends it: the provider's next answer on its
turn, or a host statement that writes FLUSH_ACK, and then only FLUSH_REQ and the wait change. Any other step that is no reset
keeps the request and the wait and changes nothing of the core but OVR, which only a host write to CMD sets. -/
def Obligations.FlushWaitFreezesTheCore : Prop :=
  ∀ (s : State) (f : FlushCmd), s.activity = .flushWait f → s.status.busy = true → s.status.flushReq = true →
    (∀ (v : Word) (rest : List Word), nextTurn s = .provider → s.provider = v :: rest →
      step s = .next { s with
        activity := .flushAcked f v
        status := { s.status with flushReq := false }
        provider := rest
        turns := s.turns.tail }) ∧
    (∀ (v : Word) (rest : List HostStmt), nextTurn s = .host → s.host = .w32 0x0B0 v :: rest →
      step s = .next { s with
        activity := .flushAcked f v
        status := { s.status with flushReq := false }
        host := rest
        turns := s.turns.tail }) ∧
    (∀ t : State, step s = .next t → (∀ c, nextTurn s ≠ .reset c) →
      ¬ (nextTurn s = .provider ∧ s.provider ≠ []) →
      ¬ (nextTurn s = .host ∧ ∃ v rest, s.host = .w32 0x0B0 v :: rest) →
        t = { s with
          status := { s.status with ovr := t.status.ovr }
          host := t.host, turns := s.turns.tail, reads := t.reads } ∧
        (t.status.ovr = s.status.ovr ∨
          (t.status.ovr = true ∧ nextTurn s = .host ∧ ∃ w rest, s.host = .w32 0x020 w :: rest)))

/-- R320: GEN_QUERY of a generation out of range gives 0 and changes nothing else; otherwise the Q_* registers hold its
number, block count, rank and flags, it finishes with 1 and nothing else changes. -/
def Obligations.GenQueryReadsOutOneGeneration : Prop :=
  ∀ (s : State) (ses : Session) (g : Nat), s.session = some ses → g = s.arg0.toNat →
    (ses.numGenerations ≤ g → exec .genQuery s = .next (s.finish false)) ∧
    (g < ses.numGenerations → ∃ fl : Word,
      exec .genQuery s = .next (State.finish true { s with
        qGen := s.arg0
        qNumBlocks := BitVec.ofNat 32 (ses.blocksOf g)
        qRank := BitVec.ofNat 32 (ses.gen g).rank
        qFlags := fl }) ∧
      fl.getLsbD 1 = (ses.gen g).decoded ∧ fl.getLsbD 0 = decide ((ses.gen g).rank = ses.blocksOf g) ∧
      fl.toNat < 4)

/-- R321, R322: NOP writes RESULT = 1 and ERR = 0 in STATUS; CLR_STATUS clears ERR_ANY and OVR as well. -/
def Obligations.NopAndClrStatusWriteStatusOnly : Prop :=
  ∀ s : State,
    exec .nop s = .next { s with status := { s.status with result := true, err := 0, busy := false } } ∧
    exec .clrStatus s = .next { s with
      status := { s.status with result := true, err := 0, busy := false, errAny := false, ovr := false } }

/-! ### The host port (spec/20_memory.md, spec/10_state.md, spec/70_reset_and_hazards.md) -/

/-- R84, R343: a host access faults as a bus error exactly where R84 says: unmapped, undefined offset, misaligned 32-bit,
8-bit to the register window, or four bytes that do not all lie in one mapped range. -/
def Obligations.BusErrorsAreThoseOfTheAddressMap : Prop :=
  ∀ (p : Config.Params) (w : Width) (a : Nat), p.Legal →
    ((∃ e, resolve p w a = .error e) ↔
      (w = .word ∧ a % 4 ≠ 0) ∨ (w = .byte ∧ a < 0x1000) ∨
      (a < 0x1000 ∧ ∀ r : Reg, r.offset ≠ a) ∨
      (0x1000 ≤ a ∧
        ¬ (0x00010000 ≤ a ∧ a + w.bytes ≤ 0x00010000 + p.maxGenBlocks) ∧
        ¬ (0x01000000 ≤ a ∧ a + w.bytes ≤ 0x01000000 + p.maxBlockSize) ∧
        ¬ (0x80000000 ≤ a ∧ a + w.bytes ≤ 0x80000000 + p.maxBuffer))) ∧
    (∀ (s : State) (v : Word) (e : BusError), s.params = p → resolve p w a = .error e →
      hostRead w a s = .fault (.busError e) ∧ hostWrite w a v s = .fault (.busError e))

/-- R88, R31, R83, R85: a legal host read changes nothing but the host's own record, to which it adds the byte or the
register it reads (a word of memory: WordAccessesAreLittleEndian); a legal write to a memory, with BUSY = 0, changes that
memory only, at the bytes it covers only, and leaves there the byte v[7:0], or the four lanes of v; a 32-bit write to a
read-only register changes nothing. The record, and that it takes an 8-bit value widened with zeros, is the model's choice
(DESIGN CHOICE, log 11). -/
def Obligations.PlainHostAccessesHaveNoSideEffect : Prop :=
  (∀ (w : Width) (a : Nat) (s : State) (t : Target), resolve s.params w a = .ok t →
    hostRead w a s = .next { s with reads := s.readTarget w t :: s.reads }) ∧
  (∀ (a : Nat) (s : State) (sp : Space) (o : Nat), resolve s.params .byte a = .ok (.mem sp o) →
    hostRead .byte a s = .next { s with reads := ((s.space sp).read o).setWidth 32 :: s.reads }) ∧
  (∀ (s : State) (r : Reg), hostRead .word r.offset s = .next { s with reads := s.readReg r :: s.reads }) ∧
  (∀ (w : Width) (a : Nat) (v : Word) (s : State) (sp : Space) (o : Nat), s.status.busy = false →
    resolve s.params w a = .ok (.mem sp o) →
      ∃ m : Memory, hostWrite w a v s = .next (s.setSpace sp m) ∧
        (∀ b, (b < o ∨ o + w.bytes ≤ b) → m.read b = (s.space sp).read b) ∧
        ((s.space sp).wf = true → m.wf = true ∧ ∀ k < w.bytes, m.read (o + k) = v.extractLsb' (8 * k) 8)) ∧
  (∀ (v : Word) (s : State) (r : Reg), s.status.busy = false → r.access = .RO →
    hostWrite .word r.offset v s = .next s)

/-- R31-R39, R46-R48, R380: a 32-bit write with BUSY = 0 to a read-write register other than CMD is what the register then
reads, CTRL in bit 0 only, and no other register that holds a value changes. And what every register reads as: STATUS bit
by bit (R33); the constants and capacities (R31); each register that holds a value, that value; the session registers 0
without a session (R39), and with one SESSION bit by bit (R38) and the numbers of R39 without wrapping. -/
def Obligations.ReadWriteRegistersReadBack : Prop :=
  (∀ (v : Word) (s : State) (r : Reg), s.status.busy = false → r.access = .RW → r ≠ .cmd →
    ∃ t, hostWrite .word r.offset v s = .next t ∧
      t.readReg r = (if r = .ctrl then v &&& 1 else v) ∧
      (∀ r', r' ≠ r → t.readReg r' = s.readReg r') ∧
      t.blk = s.blk ∧ t.dstg = s.dstg ∧ t.cstg = s.cstg ∧ t.session = s.session ∧ t.activity = s.activity) ∧
  (∀ s : State,
    ((s.readReg .status).getLsbD 0 = s.status.busy ∧ (s.readReg .status).getLsbD 1 = s.status.result ∧
      (s.readReg .status).extractLsb' 4 4 = s.status.err ∧ (s.readReg .status).getLsbD 8 = s.status.errAny ∧
      (s.readReg .status).getLsbD 9 = s.status.ovr ∧ (s.readReg .status).getLsbD 10 = s.status.flushReq ∧
      ∀ k, (k = 2 ∨ k = 3 ∨ 11 ≤ k) → (s.readReg .status).getLsbD k = false) ∧
    (s.readReg .ctrl = s.ctrl ∧ s.readReg .cmd = s.cmd ∧ s.readReg .result = s.result ∧ s.readReg .ioCode = s.ioCode) ∧
    (s.readReg .arg0 = s.arg0 ∧ s.readReg .arg1 = s.arg1 ∧ s.readReg .arg2 = s.arg2 ∧
      s.readReg .cfgBlockSize = s.cfgBlockSize ∧ s.readReg .cfgBlocksPerGen = s.cfgBlocksPerGen ∧
      s.readReg .cfgDataLength = s.cfgDataLength) ∧
    (s.readReg .pktGen = s.pktGen ∧ s.readReg .pktNumBlocks = s.pktNumBlocks ∧
      s.readReg .pktBlockSize = s.pktBlockSize) ∧
    (s.readReg .qGen = s.qGen ∧ s.readReg .qNumBlocks = s.qNumBlocks ∧ s.readReg .qRank = s.qRank ∧
      s.readReg .qFlags = s.qFlags) ∧
    (s.readReg .flGen = s.flGen ∧ s.readReg .flStart = s.flStart ∧ s.readReg .flLength = s.flLength ∧
      s.readReg .flValid = s.flValid ∧ s.readReg .flushAck = 0) ∧
    (s.params.Legal →
      s.readReg .id = 0x424C4B59 ∧ s.readReg .version = 7 ∧
      (s.readReg .capMaxBlockSize).toNat = s.params.maxBlockSize ∧
      (s.readReg .capMaxGenBlocks).toNat = s.params.maxGenBlocks ∧
      (s.readReg .capMaxGenerations).toNat = s.params.maxGenerations ∧
      (s.readReg .capMaxBuffer).toNat = s.params.maxBuffer ∧
      (s.readReg .capGf).toNat = 0x00030000 + s.params.gfPoly.toNat) ∧
    (s.session = none → ∀ r : Reg, 0x050 ≤ r.offset → r.offset ≤ 0x070 → s.readReg r = 0)) ∧
  (∀ (s : State) (ses : Session), s.session = some ses →
    (s.readReg .session).getLsbD 0 = true ∧
    ((s.readReg .session).getLsbD 1 = true ↔ ses.mode = .encoder) ∧
    ((s.readReg .session).getLsbD 2 = true ↔ ses.dataLength % ses.blockSize ≠ 0) ∧
    ((s.readReg .session).getLsbD 3 = true ↔ ses.numBlocks % ses.blocksPerGen ≠ 0) ∧
    ((s.readReg .session).getLsbD 4 = true ↔ ∀ g < ses.numGenerations, (ses.gen g).rank = ses.blocksOf g) ∧
    ((s.readReg .session).getLsbD 5 = true ↔ ∀ g < ses.numGenerations, (ses.gen g).decoded = true) ∧
    (∀ k, 6 ≤ k → (s.readReg .session).getLsbD k = false)) ∧
  (∀ (s : State) (ses : Session) (nb ng : Nat), s.session = some ses → s.params.Legal →
    validConfig s.params ses.blockSize ses.blocksPerGen ses.dataLength = true →
    nb = (ses.dataLength + ses.blockSize - 1) / ses.blockSize →
    ng = (nb + ses.blocksPerGen - 1) / ses.blocksPerGen →
      (s.readReg .blockSize).toNat = ses.blockSize ∧ (s.readReg .blocksPerGen).toNat = ses.blocksPerGen ∧
      (s.readReg .dataLength).toNat = ses.dataLength ∧ (s.readReg .numBlocks).toNat = nb ∧
      (s.readReg .numGenerations).toNat = ng ∧ (s.readReg .bufferSize).toNat = nb * ses.blockSize ∧
      (s.readReg .gensCompleted).toNat =
        ((List.range ng).filter (fun g => decide ((ses.gen g).rank = ses.blocksOf g))).length ∧
      (s.readReg .lastGenBlocks).toNat = nb - ses.blocksPerGen * (ng - 1))

/-- R85, R83: a 32-bit write to a memory puts its bits 7:0, 15:8, 23:16 and 31:24 at offsets a, a+1, a+2 and a+3, and a 32-bit
read gathers four bytes in the same order. At the host port: after a legal 32-bit write to a memory a 32-bit read of the
address records the word, 8-bit reads of the four addresses record the four lanes in that order, and a legal 32-bit read
records the four bytes so gathered. That an 8-bit read is recorded, widened with zeros, and that the record is a list with
the latest value first, is the model's choice (DESIGN CHOICE, log 11). -/
def Obligations.WordAccessesAreLittleEndian : Prop :=
  (∀ (m : Memory) (o : Nat) (v : Word), m.wf = true →
    (m.writeWord o v).read o = v.extractLsb' 0 8 ∧ (m.writeWord o v).read (o + 1) = v.extractLsb' 8 8 ∧
    (m.writeWord o v).read (o + 2) = v.extractLsb' 16 8 ∧ (m.writeWord o v).read (o + 3) = v.extractLsb' 24 8 ∧
    (m.writeWord o v).readWord o = v ∧ (m.writeWord o v).wf = true) ∧
  (∀ (m : Memory) (o : Nat),
    (m.readWord o).toNat = (m.read o).toNat + 2 ^ 8 * (m.read (o + 1)).toNat + 2 ^ 16 * (m.read (o + 2)).toNat
      + 2 ^ 24 * (m.read (o + 3)).toNat) ∧
  (∀ (a o : Nat) (v : Word) (s : State) (sp : Space), s.status.busy = false → (s.space sp).wf = true →
    resolve s.params .word a = .ok (.mem sp o) →
      ∃ t, hostWrite .word a v s = .next t ∧
        hostRead .word a t = .next { t with reads := v :: t.reads } ∧
        ∀ k < 4, hostRead .byte (a + k) t =
          .next { t with reads := (v.extractLsb' (8 * k) 8).setWidth 32 :: t.reads }) ∧
  (∀ (a o : Nat) (s : State) (sp : Space), resolve s.params .word a = .ok (.mem sp o) →
    ∃ x : Word, hostRead .word a s = .next { s with reads := x :: s.reads } ∧
      ∀ k < 4, x.extractLsb' (8 * k) 8 = (s.space sp).read (o + k))

/-- R380: with BUSY = 1 a legal host write is a dropped command word, an acknowledgement, or a fault; with any value. -/
def Obligations.OtherWritesWhileBusyFault : Prop :=
  ∀ (w : Width) (a : Nat) (v : Word) (s : State) (t : Target), s.status.busy = true →
    resolve s.params w a = .ok t →
    (t = .reg .cmd → hostWrite w a v s = .next { s with status := { s.status with ovr := true } }) ∧
    (t = .reg .flushAck → hostWrite w a v s = .next (acknowledge v s)) ∧
    (t ≠ .reg .cmd → t ≠ .reg .flushAck → hostWrite w a v s = .fault .busyHazard)

/-! ### Reset and invariants (spec/70_reset_and_hazards.md, spec/10_state.md) -/

/-- R31, R370: after reset the identification and capability registers read the constants and the parameters, and every
other register reads 0; the memories hold the contents given, byte by byte, whatever they are; no session, no wait. The
parameters of State.reset are the reference ones (log 1). -/
def Obligations.ResetLeavesTheResetState : Prop :=
  (∀ (c : Contents) (s t : State), act (.reset c) s = .next t →
    t.readReg .id = 0x424C4B59 ∧ t.readReg .version = 7 ∧
    t.readReg .capMaxBlockSize = BitVec.ofNat 32 s.params.maxBlockSize ∧
    t.readReg .capMaxGenBlocks = BitVec.ofNat 32 s.params.maxGenBlocks ∧
    t.readReg .capMaxGenerations = BitVec.ofNat 32 s.params.maxGenerations ∧
    t.readReg .capMaxBuffer = BitVec.ofNat 32 s.params.maxBuffer ∧
    (t.readReg .capGf).toNat = 0x00030000 + s.params.gfPoly.toNat ∧
    (∀ r : Reg, r ≠ .id → r ≠ .version → r ≠ .capMaxBlockSize → r ≠ .capMaxGenBlocks → r ≠ .capMaxGenerations →
      r ≠ .capMaxBuffer → r ≠ .capGf → t.readReg r = 0) ∧
    t.session = none ∧ t.activity = .idle ∧ t.coeffs = s.coeffs ∧ t.params = s.params) ∧
  (∀ (f g h : Nat → Byte) (s : State), ∃ c t, act (.reset c) s = .next t ∧
    (∀ a < s.params.maxBuffer, t.blk.read a = f a) ∧ (∀ a < s.params.maxBlockSize, t.dstg.read a = g a) ∧
    (∀ a < s.params.maxGenBlocks, t.cstg.read a = h a))

/-- The state after reset meets the invariant of the machine (R370, R44). -/
def Obligations.ResetMeetsTheInvariant : Prop := State.reset.Inv

/-- R32-R35, R47, R80, R314: every step from a state that meets the invariant keeps the memories canonical and within
their sizes, the fields no rule writes at 0, ERR a code of R340, and BUSY, FLUSH_REQ and FL_* in agreement with the command
in flight. -/
def Obligations.StepKeepsMemoriesRegistersAndFlight : Prop :=
  ∀ s t : State, s.Inv → step s = .next t →
    t.params = s.params ∧ t.MemoriesOk ∧ t.RegistersOk ∧ t.flightOk = true

/-- R44 items 1-3, R40-R43: every step from a state that meets the invariant keeps every generation's matrix upper
triangular with nonzero pivots on its accepted rows and zero beyond them, its rank in range, and the identity where it is
decoded; and so the whole invariant. -/
def Obligations.StepKeepsTheInvariant : Prop :=
  ∀ s t : State, s.Inv → step s = .next t → t.Inv

/-- R41, R42: while a session lives, ranks never decrease, a step raises one by at most 1, and decoded flags never go
from 1 to 0: a step that neither resets nor executes a configuration keeps each generation's rank or adds 1, keeps its
decoded flag set, and keeps the geometry. -/
def Obligations.RanksAndDecodedFlagsOnlyGrow : Prop :=
  ∀ (i : Instr) (s t : State) (ses : Session), s.session = some ses → ses.gens.length = ses.numGenerations →
    i ≠ .cfgEncoder → i ≠ .cfgDecoder → exec i s = .next t →
      ∃ ses', t.session = some ses' ∧ ses' = { ses with gens := ses'.gens } ∧
        ses'.gens.length = ses.gens.length ∧
        ∀ g, ((ses'.gen g).rank = (ses.gen g).rank ∨ (i = .store ∧ (ses'.gen g).rank = (ses.gen g).rank + 1)) ∧
          ((ses.gen g).decoded = true → (ses'.gen g).decoded = true) ∧
          (i ≠ .decodeGen → i ≠ .decodeAll → (ses'.gen g).decoded = (ses.gen g).decoded)
end

