-- ==== Sys2Proof/Laws/State.lean ====
section
/-! SUPPORT. One lemma per field per named update of the state: what the update leaves in the field. -/

namespace Sys2Proof.Machine

namespace Status

variable (t : Status) (b : Bool) (e : Err)

@[simp] theorem finished_busy : (t.finished b).busy = false := rfl
@[simp] theorem finished_result : (t.finished b).result = b := rfl
@[simp] theorem finished_err : (t.finished b).err = 0 := rfl
@[simp] theorem finished_errAny : (t.finished b).errAny = t.errAny := rfl
@[simp] theorem finished_ovr : (t.finished b).ovr = t.ovr := rfl
@[simp] theorem finished_flushReq : (t.finished b).flushReq = t.flushReq := rfl
@[simp] theorem raised_busy : (t.raised e).busy = false := rfl
@[simp] theorem raised_result : (t.raised e).result = false := rfl
@[simp] theorem raised_err : (t.raised e).err = e.code := rfl
@[simp] theorem raised_errAny : (t.raised e).errAny = true := rfl
@[simp] theorem raised_ovr : (t.raised e).ovr = t.ovr := rfl
@[simp] theorem raised_flushReq : (t.raised e).flushReq = t.flushReq := rfl

end Status

namespace State

variable (s : State)

@[simp] theorem finish_params (b : Bool) : (s.finish b).params = s.params := rfl
@[simp] theorem finish_ctrl (b : Bool) : (s.finish b).ctrl = s.ctrl := rfl
@[simp] theorem finish_cmd (b : Bool) : (s.finish b).cmd = s.cmd := rfl
@[simp] theorem finish_status (b : Bool) : (s.finish b).status = s.status.finished b := rfl
@[simp] theorem finish_result (b : Bool) : (s.finish b).result = s.result := rfl
@[simp] theorem finish_ioCode (b : Bool) : (s.finish b).ioCode = s.ioCode := rfl
@[simp] theorem finish_arg0 (b : Bool) : (s.finish b).arg0 = s.arg0 := rfl
@[simp] theorem finish_arg1 (b : Bool) : (s.finish b).arg1 = s.arg1 := rfl
@[simp] theorem finish_arg2 (b : Bool) : (s.finish b).arg2 = s.arg2 := rfl
@[simp] theorem finish_cfgBlockSize (b : Bool) : (s.finish b).cfgBlockSize = s.cfgBlockSize := rfl
@[simp] theorem finish_cfgBlocksPerGen (b : Bool) : (s.finish b).cfgBlocksPerGen = s.cfgBlocksPerGen := rfl
@[simp] theorem finish_cfgDataLength (b : Bool) : (s.finish b).cfgDataLength = s.cfgDataLength := rfl
@[simp] theorem finish_pktGen (b : Bool) : (s.finish b).pktGen = s.pktGen := rfl
@[simp] theorem finish_pktNumBlocks (b : Bool) : (s.finish b).pktNumBlocks = s.pktNumBlocks := rfl
@[simp] theorem finish_pktBlockSize (b : Bool) : (s.finish b).pktBlockSize = s.pktBlockSize := rfl
@[simp] theorem finish_qGen (b : Bool) : (s.finish b).qGen = s.qGen := rfl
@[simp] theorem finish_qNumBlocks (b : Bool) : (s.finish b).qNumBlocks = s.qNumBlocks := rfl
@[simp] theorem finish_qRank (b : Bool) : (s.finish b).qRank = s.qRank := rfl
@[simp] theorem finish_qFlags (b : Bool) : (s.finish b).qFlags = s.qFlags := rfl
@[simp] theorem finish_flGen (b : Bool) : (s.finish b).flGen = s.flGen := rfl
@[simp] theorem finish_flStart (b : Bool) : (s.finish b).flStart = s.flStart := rfl
@[simp] theorem finish_flLength (b : Bool) : (s.finish b).flLength = s.flLength := rfl
@[simp] theorem finish_flValid (b : Bool) : (s.finish b).flValid = s.flValid := rfl
@[simp] theorem finish_session (b : Bool) : (s.finish b).session = s.session := rfl
@[simp] theorem finish_blk (b : Bool) : (s.finish b).blk = s.blk := rfl
@[simp] theorem finish_dstg (b : Bool) : (s.finish b).dstg = s.dstg := rfl
@[simp] theorem finish_cstg (b : Bool) : (s.finish b).cstg = s.cstg := rfl
@[simp] theorem finish_activity (b : Bool) : (s.finish b).activity = s.activity := rfl
@[simp] theorem finish_coeffs (b : Bool) : (s.finish b).coeffs = s.coeffs := rfl
@[simp] theorem finish_host (b : Bool) : (s.finish b).host = s.host := rfl
@[simp] theorem finish_provider (b : Bool) : (s.finish b).provider = s.provider := rfl
@[simp] theorem finish_turns (b : Bool) : (s.finish b).turns = s.turns := rfl
@[simp] theorem finish_reads (b : Bool) : (s.finish b).reads = s.reads := rfl

@[simp] theorem raise_params (e : Err) : (s.raise e).params = s.params := rfl
@[simp] theorem raise_ctrl (e : Err) : (s.raise e).ctrl = s.ctrl := rfl
@[simp] theorem raise_cmd (e : Err) : (s.raise e).cmd = s.cmd := rfl
@[simp] theorem raise_status (e : Err) : (s.raise e).status = s.status.raised e := rfl
@[simp] theorem raise_result (e : Err) : (s.raise e).result = s.result := rfl
@[simp] theorem raise_ioCode (e : Err) : (s.raise e).ioCode = s.ioCode := rfl
@[simp] theorem raise_arg0 (e : Err) : (s.raise e).arg0 = s.arg0 := rfl
@[simp] theorem raise_arg1 (e : Err) : (s.raise e).arg1 = s.arg1 := rfl
@[simp] theorem raise_arg2 (e : Err) : (s.raise e).arg2 = s.arg2 := rfl
@[simp] theorem raise_cfgBlockSize (e : Err) : (s.raise e).cfgBlockSize = s.cfgBlockSize := rfl
@[simp] theorem raise_cfgBlocksPerGen (e : Err) : (s.raise e).cfgBlocksPerGen = s.cfgBlocksPerGen := rfl
@[simp] theorem raise_cfgDataLength (e : Err) : (s.raise e).cfgDataLength = s.cfgDataLength := rfl
@[simp] theorem raise_pktGen (e : Err) : (s.raise e).pktGen = s.pktGen := rfl
@[simp] theorem raise_pktNumBlocks (e : Err) : (s.raise e).pktNumBlocks = s.pktNumBlocks := rfl
@[simp] theorem raise_pktBlockSize (e : Err) : (s.raise e).pktBlockSize = s.pktBlockSize := rfl
@[simp] theorem raise_qGen (e : Err) : (s.raise e).qGen = s.qGen := rfl
@[simp] theorem raise_qNumBlocks (e : Err) : (s.raise e).qNumBlocks = s.qNumBlocks := rfl
@[simp] theorem raise_qRank (e : Err) : (s.raise e).qRank = s.qRank := rfl
@[simp] theorem raise_qFlags (e : Err) : (s.raise e).qFlags = s.qFlags := rfl
@[simp] theorem raise_flGen (e : Err) : (s.raise e).flGen = s.flGen := rfl
@[simp] theorem raise_flStart (e : Err) : (s.raise e).flStart = s.flStart := rfl
@[simp] theorem raise_flLength (e : Err) : (s.raise e).flLength = s.flLength := rfl
@[simp] theorem raise_flValid (e : Err) : (s.raise e).flValid = s.flValid := rfl
@[simp] theorem raise_session (e : Err) : (s.raise e).session = s.session := rfl
@[simp] theorem raise_blk (e : Err) : (s.raise e).blk = s.blk := rfl
@[simp] theorem raise_dstg (e : Err) : (s.raise e).dstg = s.dstg := rfl
@[simp] theorem raise_cstg (e : Err) : (s.raise e).cstg = s.cstg := rfl
@[simp] theorem raise_activity (e : Err) : (s.raise e).activity = s.activity := rfl
@[simp] theorem raise_coeffs (e : Err) : (s.raise e).coeffs = s.coeffs := rfl
@[simp] theorem raise_host (e : Err) : (s.raise e).host = s.host := rfl
@[simp] theorem raise_provider (e : Err) : (s.raise e).provider = s.provider := rfl
@[simp] theorem raise_turns (e : Err) : (s.raise e).turns = s.turns := rfl
@[simp] theorem raise_reads (e : Err) : (s.raise e).reads = s.reads := rfl

@[simp] theorem setResult_params (r : Byte) : (s.setResult r).params = s.params := rfl
@[simp] theorem setResult_ctrl (r : Byte) : (s.setResult r).ctrl = s.ctrl := rfl
@[simp] theorem setResult_cmd (r : Byte) : (s.setResult r).cmd = s.cmd := rfl
@[simp] theorem setResult_status (r : Byte) : (s.setResult r).status = s.status := rfl
@[simp] theorem setResult_result (r : Byte) : (s.setResult r).result = r.setWidth 32 := rfl
@[simp] theorem setResult_ioCode (r : Byte) : (s.setResult r).ioCode = s.ioCode := rfl
@[simp] theorem setResult_arg0 (r : Byte) : (s.setResult r).arg0 = s.arg0 := rfl
@[simp] theorem setResult_arg1 (r : Byte) : (s.setResult r).arg1 = s.arg1 := rfl
@[simp] theorem setResult_arg2 (r : Byte) : (s.setResult r).arg2 = s.arg2 := rfl
@[simp] theorem setResult_cfgBlockSize (r : Byte) : (s.setResult r).cfgBlockSize = s.cfgBlockSize := rfl
@[simp] theorem setResult_cfgBlocksPerGen (r : Byte) : (s.setResult r).cfgBlocksPerGen = s.cfgBlocksPerGen := rfl
@[simp] theorem setResult_cfgDataLength (r : Byte) : (s.setResult r).cfgDataLength = s.cfgDataLength := rfl
@[simp] theorem setResult_pktGen (r : Byte) : (s.setResult r).pktGen = s.pktGen := rfl
@[simp] theorem setResult_pktNumBlocks (r : Byte) : (s.setResult r).pktNumBlocks = s.pktNumBlocks := rfl
@[simp] theorem setResult_pktBlockSize (r : Byte) : (s.setResult r).pktBlockSize = s.pktBlockSize := rfl
@[simp] theorem setResult_qGen (r : Byte) : (s.setResult r).qGen = s.qGen := rfl
@[simp] theorem setResult_qNumBlocks (r : Byte) : (s.setResult r).qNumBlocks = s.qNumBlocks := rfl
@[simp] theorem setResult_qRank (r : Byte) : (s.setResult r).qRank = s.qRank := rfl
@[simp] theorem setResult_qFlags (r : Byte) : (s.setResult r).qFlags = s.qFlags := rfl
@[simp] theorem setResult_flGen (r : Byte) : (s.setResult r).flGen = s.flGen := rfl
@[simp] theorem setResult_flStart (r : Byte) : (s.setResult r).flStart = s.flStart := rfl
@[simp] theorem setResult_flLength (r : Byte) : (s.setResult r).flLength = s.flLength := rfl
@[simp] theorem setResult_flValid (r : Byte) : (s.setResult r).flValid = s.flValid := rfl
@[simp] theorem setResult_session (r : Byte) : (s.setResult r).session = s.session := rfl
@[simp] theorem setResult_blk (r : Byte) : (s.setResult r).blk = s.blk := rfl
@[simp] theorem setResult_dstg (r : Byte) : (s.setResult r).dstg = s.dstg := rfl
@[simp] theorem setResult_cstg (r : Byte) : (s.setResult r).cstg = s.cstg := rfl
@[simp] theorem setResult_activity (r : Byte) : (s.setResult r).activity = s.activity := rfl
@[simp] theorem setResult_coeffs (r : Byte) : (s.setResult r).coeffs = s.coeffs := rfl
@[simp] theorem setResult_host (r : Byte) : (s.setResult r).host = s.host := rfl
@[simp] theorem setResult_provider (r : Byte) : (s.setResult r).provider = s.provider := rfl
@[simp] theorem setResult_turns (r : Byte) : (s.setResult r).turns = s.turns := rfl
@[simp] theorem setResult_reads (r : Byte) : (s.setResult r).reads = s.reads := rfl

@[simp] theorem setBlk_params (m : Memory) : (s.setBlk m).params = s.params := rfl
@[simp] theorem setBlk_ctrl (m : Memory) : (s.setBlk m).ctrl = s.ctrl := rfl
@[simp] theorem setBlk_cmd (m : Memory) : (s.setBlk m).cmd = s.cmd := rfl
@[simp] theorem setBlk_status (m : Memory) : (s.setBlk m).status = s.status := rfl
@[simp] theorem setBlk_result (m : Memory) : (s.setBlk m).result = s.result := rfl
@[simp] theorem setBlk_ioCode (m : Memory) : (s.setBlk m).ioCode = s.ioCode := rfl
@[simp] theorem setBlk_arg0 (m : Memory) : (s.setBlk m).arg0 = s.arg0 := rfl
@[simp] theorem setBlk_arg1 (m : Memory) : (s.setBlk m).arg1 = s.arg1 := rfl
@[simp] theorem setBlk_arg2 (m : Memory) : (s.setBlk m).arg2 = s.arg2 := rfl
@[simp] theorem setBlk_cfgBlockSize (m : Memory) : (s.setBlk m).cfgBlockSize = s.cfgBlockSize := rfl
@[simp] theorem setBlk_cfgBlocksPerGen (m : Memory) : (s.setBlk m).cfgBlocksPerGen = s.cfgBlocksPerGen := rfl
@[simp] theorem setBlk_cfgDataLength (m : Memory) : (s.setBlk m).cfgDataLength = s.cfgDataLength := rfl
@[simp] theorem setBlk_pktGen (m : Memory) : (s.setBlk m).pktGen = s.pktGen := rfl
@[simp] theorem setBlk_pktNumBlocks (m : Memory) : (s.setBlk m).pktNumBlocks = s.pktNumBlocks := rfl
@[simp] theorem setBlk_pktBlockSize (m : Memory) : (s.setBlk m).pktBlockSize = s.pktBlockSize := rfl
@[simp] theorem setBlk_qGen (m : Memory) : (s.setBlk m).qGen = s.qGen := rfl
@[simp] theorem setBlk_qNumBlocks (m : Memory) : (s.setBlk m).qNumBlocks = s.qNumBlocks := rfl
@[simp] theorem setBlk_qRank (m : Memory) : (s.setBlk m).qRank = s.qRank := rfl
@[simp] theorem setBlk_qFlags (m : Memory) : (s.setBlk m).qFlags = s.qFlags := rfl
@[simp] theorem setBlk_flGen (m : Memory) : (s.setBlk m).flGen = s.flGen := rfl
@[simp] theorem setBlk_flStart (m : Memory) : (s.setBlk m).flStart = s.flStart := rfl
@[simp] theorem setBlk_flLength (m : Memory) : (s.setBlk m).flLength = s.flLength := rfl
@[simp] theorem setBlk_flValid (m : Memory) : (s.setBlk m).flValid = s.flValid := rfl
@[simp] theorem setBlk_session (m : Memory) : (s.setBlk m).session = s.session := rfl
@[simp] theorem setBlk_blk (m : Memory) : (s.setBlk m).blk = m := rfl
@[simp] theorem setBlk_dstg (m : Memory) : (s.setBlk m).dstg = s.dstg := rfl
@[simp] theorem setBlk_cstg (m : Memory) : (s.setBlk m).cstg = s.cstg := rfl
@[simp] theorem setBlk_activity (m : Memory) : (s.setBlk m).activity = s.activity := rfl
@[simp] theorem setBlk_coeffs (m : Memory) : (s.setBlk m).coeffs = s.coeffs := rfl
@[simp] theorem setBlk_host (m : Memory) : (s.setBlk m).host = s.host := rfl
@[simp] theorem setBlk_provider (m : Memory) : (s.setBlk m).provider = s.provider := rfl
@[simp] theorem setBlk_turns (m : Memory) : (s.setBlk m).turns = s.turns := rfl
@[simp] theorem setBlk_reads (m : Memory) : (s.setBlk m).reads = s.reads := rfl

@[simp] theorem setSession_params (ses : Session) (m : Memory) : (s.setSession ses m).params = s.params := rfl
@[simp] theorem setSession_ctrl (ses : Session) (m : Memory) : (s.setSession ses m).ctrl = s.ctrl := rfl
@[simp] theorem setSession_cmd (ses : Session) (m : Memory) : (s.setSession ses m).cmd = s.cmd := rfl
@[simp] theorem setSession_status (ses : Session) (m : Memory) : (s.setSession ses m).status = s.status := rfl
@[simp] theorem setSession_result (ses : Session) (m : Memory) : (s.setSession ses m).result = s.result := rfl
@[simp] theorem setSession_ioCode (ses : Session) (m : Memory) : (s.setSession ses m).ioCode = s.ioCode := rfl
@[simp] theorem setSession_arg0 (ses : Session) (m : Memory) : (s.setSession ses m).arg0 = s.arg0 := rfl
@[simp] theorem setSession_arg1 (ses : Session) (m : Memory) : (s.setSession ses m).arg1 = s.arg1 := rfl
@[simp] theorem setSession_arg2 (ses : Session) (m : Memory) : (s.setSession ses m).arg2 = s.arg2 := rfl
@[simp] theorem setSession_cfgBlockSize (ses : Session) (m : Memory) : (s.setSession ses m).cfgBlockSize = s.cfgBlockSize := rfl
@[simp] theorem setSession_cfgBlocksPerGen (ses : Session) (m : Memory) : (s.setSession ses m).cfgBlocksPerGen = s.cfgBlocksPerGen := rfl
@[simp] theorem setSession_cfgDataLength (ses : Session) (m : Memory) : (s.setSession ses m).cfgDataLength = s.cfgDataLength := rfl
@[simp] theorem setSession_pktGen (ses : Session) (m : Memory) : (s.setSession ses m).pktGen = s.pktGen := rfl
@[simp] theorem setSession_pktNumBlocks (ses : Session) (m : Memory) : (s.setSession ses m).pktNumBlocks = s.pktNumBlocks := rfl
@[simp] theorem setSession_pktBlockSize (ses : Session) (m : Memory) : (s.setSession ses m).pktBlockSize = s.pktBlockSize := rfl
@[simp] theorem setSession_qGen (ses : Session) (m : Memory) : (s.setSession ses m).qGen = s.qGen := rfl
@[simp] theorem setSession_qNumBlocks (ses : Session) (m : Memory) : (s.setSession ses m).qNumBlocks = s.qNumBlocks := rfl
@[simp] theorem setSession_qRank (ses : Session) (m : Memory) : (s.setSession ses m).qRank = s.qRank := rfl
@[simp] theorem setSession_qFlags (ses : Session) (m : Memory) : (s.setSession ses m).qFlags = s.qFlags := rfl
@[simp] theorem setSession_flGen (ses : Session) (m : Memory) : (s.setSession ses m).flGen = s.flGen := rfl
@[simp] theorem setSession_flStart (ses : Session) (m : Memory) : (s.setSession ses m).flStart = s.flStart := rfl
@[simp] theorem setSession_flLength (ses : Session) (m : Memory) : (s.setSession ses m).flLength = s.flLength := rfl
@[simp] theorem setSession_flValid (ses : Session) (m : Memory) : (s.setSession ses m).flValid = s.flValid := rfl
@[simp] theorem setSession_session (ses : Session) (m : Memory) : (s.setSession ses m).session = some ses := rfl
@[simp] theorem setSession_blk (ses : Session) (m : Memory) : (s.setSession ses m).blk = m := rfl
@[simp] theorem setSession_dstg (ses : Session) (m : Memory) : (s.setSession ses m).dstg = s.dstg := rfl
@[simp] theorem setSession_cstg (ses : Session) (m : Memory) : (s.setSession ses m).cstg = s.cstg := rfl
@[simp] theorem setSession_activity (ses : Session) (m : Memory) : (s.setSession ses m).activity = s.activity := rfl
@[simp] theorem setSession_coeffs (ses : Session) (m : Memory) : (s.setSession ses m).coeffs = s.coeffs := rfl
@[simp] theorem setSession_host (ses : Session) (m : Memory) : (s.setSession ses m).host = s.host := rfl
@[simp] theorem setSession_provider (ses : Session) (m : Memory) : (s.setSession ses m).provider = s.provider := rfl
@[simp] theorem setSession_turns (ses : Session) (m : Memory) : (s.setSession ses m).turns = s.turns := rfl
@[simp] theorem setSession_reads (ses : Session) (m : Memory) : (s.setSession ses m).reads = s.reads := rfl

@[simp] theorem clearSticky_params : (s.clearSticky).params = s.params := rfl
@[simp] theorem clearSticky_ctrl : (s.clearSticky).ctrl = s.ctrl := rfl
@[simp] theorem clearSticky_cmd : (s.clearSticky).cmd = s.cmd := rfl
@[simp] theorem clearSticky_status : (s.clearSticky).status = { s.status with errAny := false, ovr := false } := rfl
@[simp] theorem clearSticky_result : (s.clearSticky).result = s.result := rfl
@[simp] theorem clearSticky_ioCode : (s.clearSticky).ioCode = s.ioCode := rfl
@[simp] theorem clearSticky_arg0 : (s.clearSticky).arg0 = s.arg0 := rfl
@[simp] theorem clearSticky_arg1 : (s.clearSticky).arg1 = s.arg1 := rfl
@[simp] theorem clearSticky_arg2 : (s.clearSticky).arg2 = s.arg2 := rfl
@[simp] theorem clearSticky_cfgBlockSize : (s.clearSticky).cfgBlockSize = s.cfgBlockSize := rfl
@[simp] theorem clearSticky_cfgBlocksPerGen : (s.clearSticky).cfgBlocksPerGen = s.cfgBlocksPerGen := rfl
@[simp] theorem clearSticky_cfgDataLength : (s.clearSticky).cfgDataLength = s.cfgDataLength := rfl
@[simp] theorem clearSticky_pktGen : (s.clearSticky).pktGen = s.pktGen := rfl
@[simp] theorem clearSticky_pktNumBlocks : (s.clearSticky).pktNumBlocks = s.pktNumBlocks := rfl
@[simp] theorem clearSticky_pktBlockSize : (s.clearSticky).pktBlockSize = s.pktBlockSize := rfl
@[simp] theorem clearSticky_qGen : (s.clearSticky).qGen = s.qGen := rfl
@[simp] theorem clearSticky_qNumBlocks : (s.clearSticky).qNumBlocks = s.qNumBlocks := rfl
@[simp] theorem clearSticky_qRank : (s.clearSticky).qRank = s.qRank := rfl
@[simp] theorem clearSticky_qFlags : (s.clearSticky).qFlags = s.qFlags := rfl
@[simp] theorem clearSticky_flGen : (s.clearSticky).flGen = s.flGen := rfl
@[simp] theorem clearSticky_flStart : (s.clearSticky).flStart = s.flStart := rfl
@[simp] theorem clearSticky_flLength : (s.clearSticky).flLength = s.flLength := rfl
@[simp] theorem clearSticky_flValid : (s.clearSticky).flValid = s.flValid := rfl
@[simp] theorem clearSticky_session : (s.clearSticky).session = s.session := rfl
@[simp] theorem clearSticky_blk : (s.clearSticky).blk = s.blk := rfl
@[simp] theorem clearSticky_dstg : (s.clearSticky).dstg = s.dstg := rfl
@[simp] theorem clearSticky_cstg : (s.clearSticky).cstg = s.cstg := rfl
@[simp] theorem clearSticky_activity : (s.clearSticky).activity = s.activity := rfl
@[simp] theorem clearSticky_coeffs : (s.clearSticky).coeffs = s.coeffs := rfl
@[simp] theorem clearSticky_host : (s.clearSticky).host = s.host := rfl
@[simp] theorem clearSticky_provider : (s.clearSticky).provider = s.provider := rfl
@[simp] theorem clearSticky_turns : (s.clearSticky).turns = s.turns := rfl
@[simp] theorem clearSticky_reads : (s.clearSticky).reads = s.reads := rfl

@[simp] theorem setHeader_params (g n bs : Nat) : (s.setHeader g n bs).params = s.params := rfl
@[simp] theorem setHeader_ctrl (g n bs : Nat) : (s.setHeader g n bs).ctrl = s.ctrl := rfl
@[simp] theorem setHeader_cmd (g n bs : Nat) : (s.setHeader g n bs).cmd = s.cmd := rfl
@[simp] theorem setHeader_status (g n bs : Nat) : (s.setHeader g n bs).status = s.status := rfl
@[simp] theorem setHeader_result (g n bs : Nat) : (s.setHeader g n bs).result = s.result := rfl
@[simp] theorem setHeader_ioCode (g n bs : Nat) : (s.setHeader g n bs).ioCode = s.ioCode := rfl
@[simp] theorem setHeader_arg0 (g n bs : Nat) : (s.setHeader g n bs).arg0 = s.arg0 := rfl
@[simp] theorem setHeader_arg1 (g n bs : Nat) : (s.setHeader g n bs).arg1 = s.arg1 := rfl
@[simp] theorem setHeader_arg2 (g n bs : Nat) : (s.setHeader g n bs).arg2 = s.arg2 := rfl
@[simp] theorem setHeader_cfgBlockSize (g n bs : Nat) : (s.setHeader g n bs).cfgBlockSize = s.cfgBlockSize := rfl
@[simp] theorem setHeader_cfgBlocksPerGen (g n bs : Nat) : (s.setHeader g n bs).cfgBlocksPerGen = s.cfgBlocksPerGen := rfl
@[simp] theorem setHeader_cfgDataLength (g n bs : Nat) : (s.setHeader g n bs).cfgDataLength = s.cfgDataLength := rfl
@[simp] theorem setHeader_pktGen (g n bs : Nat) : (s.setHeader g n bs).pktGen = BitVec.ofNat 32 g := rfl
@[simp] theorem setHeader_pktNumBlocks (g n bs : Nat) : (s.setHeader g n bs).pktNumBlocks = BitVec.ofNat 32 n := rfl
@[simp] theorem setHeader_pktBlockSize (g n bs : Nat) : (s.setHeader g n bs).pktBlockSize = BitVec.ofNat 32 bs := rfl
@[simp] theorem setHeader_qGen (g n bs : Nat) : (s.setHeader g n bs).qGen = s.qGen := rfl
@[simp] theorem setHeader_qNumBlocks (g n bs : Nat) : (s.setHeader g n bs).qNumBlocks = s.qNumBlocks := rfl
@[simp] theorem setHeader_qRank (g n bs : Nat) : (s.setHeader g n bs).qRank = s.qRank := rfl
@[simp] theorem setHeader_qFlags (g n bs : Nat) : (s.setHeader g n bs).qFlags = s.qFlags := rfl
@[simp] theorem setHeader_flGen (g n bs : Nat) : (s.setHeader g n bs).flGen = s.flGen := rfl
@[simp] theorem setHeader_flStart (g n bs : Nat) : (s.setHeader g n bs).flStart = s.flStart := rfl
@[simp] theorem setHeader_flLength (g n bs : Nat) : (s.setHeader g n bs).flLength = s.flLength := rfl
@[simp] theorem setHeader_flValid (g n bs : Nat) : (s.setHeader g n bs).flValid = s.flValid := rfl
@[simp] theorem setHeader_session (g n bs : Nat) : (s.setHeader g n bs).session = s.session := rfl
@[simp] theorem setHeader_blk (g n bs : Nat) : (s.setHeader g n bs).blk = s.blk := rfl
@[simp] theorem setHeader_dstg (g n bs : Nat) : (s.setHeader g n bs).dstg = s.dstg := rfl
@[simp] theorem setHeader_cstg (g n bs : Nat) : (s.setHeader g n bs).cstg = s.cstg := rfl
@[simp] theorem setHeader_activity (g n bs : Nat) : (s.setHeader g n bs).activity = s.activity := rfl
@[simp] theorem setHeader_coeffs (g n bs : Nat) : (s.setHeader g n bs).coeffs = s.coeffs := rfl
@[simp] theorem setHeader_host (g n bs : Nat) : (s.setHeader g n bs).host = s.host := rfl
@[simp] theorem setHeader_provider (g n bs : Nat) : (s.setHeader g n bs).provider = s.provider := rfl
@[simp] theorem setHeader_turns (g n bs : Nat) : (s.setHeader g n bs).turns = s.turns := rfl
@[simp] theorem setHeader_reads (g n bs : Nat) : (s.setHeader g n bs).reads = s.reads := rfl

@[simp] theorem setStaging_params (d c : List Byte) : (s.setStaging d c).params = s.params := rfl
@[simp] theorem setStaging_ctrl (d c : List Byte) : (s.setStaging d c).ctrl = s.ctrl := rfl
@[simp] theorem setStaging_cmd (d c : List Byte) : (s.setStaging d c).cmd = s.cmd := rfl
@[simp] theorem setStaging_status (d c : List Byte) : (s.setStaging d c).status = s.status := rfl
@[simp] theorem setStaging_result (d c : List Byte) : (s.setStaging d c).result = s.result := rfl
@[simp] theorem setStaging_ioCode (d c : List Byte) : (s.setStaging d c).ioCode = s.ioCode := rfl
@[simp] theorem setStaging_arg0 (d c : List Byte) : (s.setStaging d c).arg0 = s.arg0 := rfl
@[simp] theorem setStaging_arg1 (d c : List Byte) : (s.setStaging d c).arg1 = s.arg1 := rfl
@[simp] theorem setStaging_arg2 (d c : List Byte) : (s.setStaging d c).arg2 = s.arg2 := rfl
@[simp] theorem setStaging_cfgBlockSize (d c : List Byte) : (s.setStaging d c).cfgBlockSize = s.cfgBlockSize := rfl
@[simp] theorem setStaging_cfgBlocksPerGen (d c : List Byte) : (s.setStaging d c).cfgBlocksPerGen = s.cfgBlocksPerGen := rfl
@[simp] theorem setStaging_cfgDataLength (d c : List Byte) : (s.setStaging d c).cfgDataLength = s.cfgDataLength := rfl
@[simp] theorem setStaging_pktGen (d c : List Byte) : (s.setStaging d c).pktGen = s.pktGen := rfl
@[simp] theorem setStaging_pktNumBlocks (d c : List Byte) : (s.setStaging d c).pktNumBlocks = s.pktNumBlocks := rfl
@[simp] theorem setStaging_pktBlockSize (d c : List Byte) : (s.setStaging d c).pktBlockSize = s.pktBlockSize := rfl
@[simp] theorem setStaging_qGen (d c : List Byte) : (s.setStaging d c).qGen = s.qGen := rfl
@[simp] theorem setStaging_qNumBlocks (d c : List Byte) : (s.setStaging d c).qNumBlocks = s.qNumBlocks := rfl
@[simp] theorem setStaging_qRank (d c : List Byte) : (s.setStaging d c).qRank = s.qRank := rfl
@[simp] theorem setStaging_qFlags (d c : List Byte) : (s.setStaging d c).qFlags = s.qFlags := rfl
@[simp] theorem setStaging_flGen (d c : List Byte) : (s.setStaging d c).flGen = s.flGen := rfl
@[simp] theorem setStaging_flStart (d c : List Byte) : (s.setStaging d c).flStart = s.flStart := rfl
@[simp] theorem setStaging_flLength (d c : List Byte) : (s.setStaging d c).flLength = s.flLength := rfl
@[simp] theorem setStaging_flValid (d c : List Byte) : (s.setStaging d c).flValid = s.flValid := rfl
@[simp] theorem setStaging_session (d c : List Byte) : (s.setStaging d c).session = s.session := rfl
@[simp] theorem setStaging_blk (d c : List Byte) : (s.setStaging d c).blk = s.blk := rfl
@[simp] theorem setStaging_dstg (d c : List Byte) : (s.setStaging d c).dstg = s.dstg.writeBytes 0 d := rfl
@[simp] theorem setStaging_cstg (d c : List Byte) : (s.setStaging d c).cstg = s.cstg.writeBytes 0 c := rfl
@[simp] theorem setStaging_activity (d c : List Byte) : (s.setStaging d c).activity = s.activity := rfl
@[simp] theorem setStaging_coeffs (d c : List Byte) : (s.setStaging d c).coeffs = s.coeffs := rfl
@[simp] theorem setStaging_host (d c : List Byte) : (s.setStaging d c).host = s.host := rfl
@[simp] theorem setStaging_provider (d c : List Byte) : (s.setStaging d c).provider = s.provider := rfl
@[simp] theorem setStaging_turns (d c : List Byte) : (s.setStaging d c).turns = s.turns := rfl
@[simp] theorem setStaging_reads (d c : List Byte) : (s.setStaging d c).reads = s.reads := rfl

@[simp] theorem setCoeffs_params (c : CoeffSource) : (s.setCoeffs c).params = s.params := rfl
@[simp] theorem setCoeffs_ctrl (c : CoeffSource) : (s.setCoeffs c).ctrl = s.ctrl := rfl
@[simp] theorem setCoeffs_cmd (c : CoeffSource) : (s.setCoeffs c).cmd = s.cmd := rfl
@[simp] theorem setCoeffs_status (c : CoeffSource) : (s.setCoeffs c).status = s.status := rfl
@[simp] theorem setCoeffs_result (c : CoeffSource) : (s.setCoeffs c).result = s.result := rfl
@[simp] theorem setCoeffs_ioCode (c : CoeffSource) : (s.setCoeffs c).ioCode = s.ioCode := rfl
@[simp] theorem setCoeffs_arg0 (c : CoeffSource) : (s.setCoeffs c).arg0 = s.arg0 := rfl
@[simp] theorem setCoeffs_arg1 (c : CoeffSource) : (s.setCoeffs c).arg1 = s.arg1 := rfl
@[simp] theorem setCoeffs_arg2 (c : CoeffSource) : (s.setCoeffs c).arg2 = s.arg2 := rfl
@[simp] theorem setCoeffs_cfgBlockSize (c : CoeffSource) : (s.setCoeffs c).cfgBlockSize = s.cfgBlockSize := rfl
@[simp] theorem setCoeffs_cfgBlocksPerGen (c : CoeffSource) : (s.setCoeffs c).cfgBlocksPerGen = s.cfgBlocksPerGen := rfl
@[simp] theorem setCoeffs_cfgDataLength (c : CoeffSource) : (s.setCoeffs c).cfgDataLength = s.cfgDataLength := rfl
@[simp] theorem setCoeffs_pktGen (c : CoeffSource) : (s.setCoeffs c).pktGen = s.pktGen := rfl
@[simp] theorem setCoeffs_pktNumBlocks (c : CoeffSource) : (s.setCoeffs c).pktNumBlocks = s.pktNumBlocks := rfl
@[simp] theorem setCoeffs_pktBlockSize (c : CoeffSource) : (s.setCoeffs c).pktBlockSize = s.pktBlockSize := rfl
@[simp] theorem setCoeffs_qGen (c : CoeffSource) : (s.setCoeffs c).qGen = s.qGen := rfl
@[simp] theorem setCoeffs_qNumBlocks (c : CoeffSource) : (s.setCoeffs c).qNumBlocks = s.qNumBlocks := rfl
@[simp] theorem setCoeffs_qRank (c : CoeffSource) : (s.setCoeffs c).qRank = s.qRank := rfl
@[simp] theorem setCoeffs_qFlags (c : CoeffSource) : (s.setCoeffs c).qFlags = s.qFlags := rfl
@[simp] theorem setCoeffs_flGen (c : CoeffSource) : (s.setCoeffs c).flGen = s.flGen := rfl
@[simp] theorem setCoeffs_flStart (c : CoeffSource) : (s.setCoeffs c).flStart = s.flStart := rfl
@[simp] theorem setCoeffs_flLength (c : CoeffSource) : (s.setCoeffs c).flLength = s.flLength := rfl
@[simp] theorem setCoeffs_flValid (c : CoeffSource) : (s.setCoeffs c).flValid = s.flValid := rfl
@[simp] theorem setCoeffs_session (c : CoeffSource) : (s.setCoeffs c).session = s.session := rfl
@[simp] theorem setCoeffs_blk (c : CoeffSource) : (s.setCoeffs c).blk = s.blk := rfl
@[simp] theorem setCoeffs_dstg (c : CoeffSource) : (s.setCoeffs c).dstg = s.dstg := rfl
@[simp] theorem setCoeffs_cstg (c : CoeffSource) : (s.setCoeffs c).cstg = s.cstg := rfl
@[simp] theorem setCoeffs_activity (c : CoeffSource) : (s.setCoeffs c).activity = s.activity := rfl
@[simp] theorem setCoeffs_coeffs (c : CoeffSource) : (s.setCoeffs c).coeffs = c := rfl
@[simp] theorem setCoeffs_host (c : CoeffSource) : (s.setCoeffs c).host = s.host := rfl
@[simp] theorem setCoeffs_provider (c : CoeffSource) : (s.setCoeffs c).provider = s.provider := rfl
@[simp] theorem setCoeffs_turns (c : CoeffSource) : (s.setCoeffs c).turns = s.turns := rfl
@[simp] theorem setCoeffs_reads (c : CoeffSource) : (s.setCoeffs c).reads = s.reads := rfl

@[simp] theorem hang_params : (s.hang).params = s.params := rfl
@[simp] theorem hang_ctrl : (s.hang).ctrl = s.ctrl := rfl
@[simp] theorem hang_cmd : (s.hang).cmd = s.cmd := rfl
@[simp] theorem hang_status : (s.hang).status = { s.status with busy := true } := rfl
@[simp] theorem hang_result : (s.hang).result = s.result := rfl
@[simp] theorem hang_ioCode : (s.hang).ioCode = s.ioCode := rfl
@[simp] theorem hang_arg0 : (s.hang).arg0 = s.arg0 := rfl
@[simp] theorem hang_arg1 : (s.hang).arg1 = s.arg1 := rfl
@[simp] theorem hang_arg2 : (s.hang).arg2 = s.arg2 := rfl
@[simp] theorem hang_cfgBlockSize : (s.hang).cfgBlockSize = s.cfgBlockSize := rfl
@[simp] theorem hang_cfgBlocksPerGen : (s.hang).cfgBlocksPerGen = s.cfgBlocksPerGen := rfl
@[simp] theorem hang_cfgDataLength : (s.hang).cfgDataLength = s.cfgDataLength := rfl
@[simp] theorem hang_pktGen : (s.hang).pktGen = s.pktGen := rfl
@[simp] theorem hang_pktNumBlocks : (s.hang).pktNumBlocks = s.pktNumBlocks := rfl
@[simp] theorem hang_pktBlockSize : (s.hang).pktBlockSize = s.pktBlockSize := rfl
@[simp] theorem hang_qGen : (s.hang).qGen = s.qGen := rfl
@[simp] theorem hang_qNumBlocks : (s.hang).qNumBlocks = s.qNumBlocks := rfl
@[simp] theorem hang_qRank : (s.hang).qRank = s.qRank := rfl
@[simp] theorem hang_qFlags : (s.hang).qFlags = s.qFlags := rfl
@[simp] theorem hang_flGen : (s.hang).flGen = s.flGen := rfl
@[simp] theorem hang_flStart : (s.hang).flStart = s.flStart := rfl
@[simp] theorem hang_flLength : (s.hang).flLength = s.flLength := rfl
@[simp] theorem hang_flValid : (s.hang).flValid = s.flValid := rfl
@[simp] theorem hang_session : (s.hang).session = s.session := rfl
@[simp] theorem hang_blk : (s.hang).blk = s.blk := rfl
@[simp] theorem hang_dstg : (s.hang).dstg = s.dstg := rfl
@[simp] theorem hang_cstg : (s.hang).cstg = s.cstg := rfl
@[simp] theorem hang_activity : (s.hang).activity = .drawWait := rfl
@[simp] theorem hang_coeffs : (s.hang).coeffs = s.coeffs := rfl
@[simp] theorem hang_host : (s.hang).host = s.host := rfl
@[simp] theorem hang_provider : (s.hang).provider = s.provider := rfl
@[simp] theorem hang_turns : (s.hang).turns = s.turns := rfl
@[simp] theorem hang_reads : (s.hang).reads = s.reads := rfl

@[simp] theorem setQuery_params (ses : Session) (g : Nat) : (s.setQuery ses g).params = s.params := rfl
@[simp] theorem setQuery_ctrl (ses : Session) (g : Nat) : (s.setQuery ses g).ctrl = s.ctrl := rfl
@[simp] theorem setQuery_cmd (ses : Session) (g : Nat) : (s.setQuery ses g).cmd = s.cmd := rfl
@[simp] theorem setQuery_status (ses : Session) (g : Nat) : (s.setQuery ses g).status = s.status := rfl
@[simp] theorem setQuery_result (ses : Session) (g : Nat) : (s.setQuery ses g).result = s.result := rfl
@[simp] theorem setQuery_ioCode (ses : Session) (g : Nat) : (s.setQuery ses g).ioCode = s.ioCode := rfl
@[simp] theorem setQuery_arg0 (ses : Session) (g : Nat) : (s.setQuery ses g).arg0 = s.arg0 := rfl
@[simp] theorem setQuery_arg1 (ses : Session) (g : Nat) : (s.setQuery ses g).arg1 = s.arg1 := rfl
@[simp] theorem setQuery_arg2 (ses : Session) (g : Nat) : (s.setQuery ses g).arg2 = s.arg2 := rfl
@[simp] theorem setQuery_cfgBlockSize (ses : Session) (g : Nat) : (s.setQuery ses g).cfgBlockSize = s.cfgBlockSize := rfl
@[simp] theorem setQuery_cfgBlocksPerGen (ses : Session) (g : Nat) : (s.setQuery ses g).cfgBlocksPerGen = s.cfgBlocksPerGen := rfl
@[simp] theorem setQuery_cfgDataLength (ses : Session) (g : Nat) : (s.setQuery ses g).cfgDataLength = s.cfgDataLength := rfl
@[simp] theorem setQuery_pktGen (ses : Session) (g : Nat) : (s.setQuery ses g).pktGen = s.pktGen := rfl
@[simp] theorem setQuery_pktNumBlocks (ses : Session) (g : Nat) : (s.setQuery ses g).pktNumBlocks = s.pktNumBlocks := rfl
@[simp] theorem setQuery_pktBlockSize (ses : Session) (g : Nat) : (s.setQuery ses g).pktBlockSize = s.pktBlockSize := rfl
@[simp] theorem setQuery_qGen (ses : Session) (g : Nat) : (s.setQuery ses g).qGen = BitVec.ofNat 32 g := rfl
@[simp] theorem setQuery_qNumBlocks (ses : Session) (g : Nat) : (s.setQuery ses g).qNumBlocks = BitVec.ofNat 32 (ses.blocksOf g) := rfl
@[simp] theorem setQuery_qRank (ses : Session) (g : Nat) : (s.setQuery ses g).qRank = BitVec.ofNat 32 (ses.gen g).rank := rfl
@[simp] theorem setQuery_qFlags (ses : Session) (g : Nat) : (s.setQuery ses g).qFlags = ses.queryFlags g := rfl
@[simp] theorem setQuery_flGen (ses : Session) (g : Nat) : (s.setQuery ses g).flGen = s.flGen := rfl
@[simp] theorem setQuery_flStart (ses : Session) (g : Nat) : (s.setQuery ses g).flStart = s.flStart := rfl
@[simp] theorem setQuery_flLength (ses : Session) (g : Nat) : (s.setQuery ses g).flLength = s.flLength := rfl
@[simp] theorem setQuery_flValid (ses : Session) (g : Nat) : (s.setQuery ses g).flValid = s.flValid := rfl
@[simp] theorem setQuery_session (ses : Session) (g : Nat) : (s.setQuery ses g).session = s.session := rfl
@[simp] theorem setQuery_blk (ses : Session) (g : Nat) : (s.setQuery ses g).blk = s.blk := rfl
@[simp] theorem setQuery_dstg (ses : Session) (g : Nat) : (s.setQuery ses g).dstg = s.dstg := rfl
@[simp] theorem setQuery_cstg (ses : Session) (g : Nat) : (s.setQuery ses g).cstg = s.cstg := rfl
@[simp] theorem setQuery_activity (ses : Session) (g : Nat) : (s.setQuery ses g).activity = s.activity := rfl
@[simp] theorem setQuery_coeffs (ses : Session) (g : Nat) : (s.setQuery ses g).coeffs = s.coeffs := rfl
@[simp] theorem setQuery_host (ses : Session) (g : Nat) : (s.setQuery ses g).host = s.host := rfl
@[simp] theorem setQuery_provider (ses : Session) (g : Nat) : (s.setQuery ses g).provider = s.provider := rfl
@[simp] theorem setQuery_turns (ses : Session) (g : Nat) : (s.setQuery ses g).turns = s.turns := rfl
@[simp] theorem setQuery_reads (ses : Session) (g : Nat) : (s.setQuery ses g).reads = s.reads := rfl

@[simp] theorem requestFlush_params (ses : Session) (f : FlushCmd) (g : Nat) : (s.requestFlush ses f g).params = s.params := rfl
@[simp] theorem requestFlush_ctrl (ses : Session) (f : FlushCmd) (g : Nat) : (s.requestFlush ses f g).ctrl = s.ctrl := rfl
@[simp] theorem requestFlush_cmd (ses : Session) (f : FlushCmd) (g : Nat) : (s.requestFlush ses f g).cmd = s.cmd := rfl
@[simp] theorem requestFlush_status (ses : Session) (f : FlushCmd) (g : Nat) : (s.requestFlush ses f g).status = { s.status with flushReq := true, busy := true } := rfl
@[simp] theorem requestFlush_result (ses : Session) (f : FlushCmd) (g : Nat) : (s.requestFlush ses f g).result = s.result := rfl
@[simp] theorem requestFlush_ioCode (ses : Session) (f : FlushCmd) (g : Nat) : (s.requestFlush ses f g).ioCode = s.ioCode := rfl
@[simp] theorem requestFlush_arg0 (ses : Session) (f : FlushCmd) (g : Nat) : (s.requestFlush ses f g).arg0 = s.arg0 := rfl
@[simp] theorem requestFlush_arg1 (ses : Session) (f : FlushCmd) (g : Nat) : (s.requestFlush ses f g).arg1 = s.arg1 := rfl
@[simp] theorem requestFlush_arg2 (ses : Session) (f : FlushCmd) (g : Nat) : (s.requestFlush ses f g).arg2 = s.arg2 := rfl
@[simp] theorem requestFlush_cfgBlockSize (ses : Session) (f : FlushCmd) (g : Nat) : (s.requestFlush ses f g).cfgBlockSize = s.cfgBlockSize := rfl
@[simp] theorem requestFlush_cfgBlocksPerGen (ses : Session) (f : FlushCmd) (g : Nat) : (s.requestFlush ses f g).cfgBlocksPerGen = s.cfgBlocksPerGen := rfl
@[simp] theorem requestFlush_cfgDataLength (ses : Session) (f : FlushCmd) (g : Nat) : (s.requestFlush ses f g).cfgDataLength = s.cfgDataLength := rfl
@[simp] theorem requestFlush_pktGen (ses : Session) (f : FlushCmd) (g : Nat) : (s.requestFlush ses f g).pktGen = s.pktGen := rfl
@[simp] theorem requestFlush_pktNumBlocks (ses : Session) (f : FlushCmd) (g : Nat) : (s.requestFlush ses f g).pktNumBlocks = s.pktNumBlocks := rfl
@[simp] theorem requestFlush_pktBlockSize (ses : Session) (f : FlushCmd) (g : Nat) : (s.requestFlush ses f g).pktBlockSize = s.pktBlockSize := rfl
@[simp] theorem requestFlush_qGen (ses : Session) (f : FlushCmd) (g : Nat) : (s.requestFlush ses f g).qGen = s.qGen := rfl
@[simp] theorem requestFlush_qNumBlocks (ses : Session) (f : FlushCmd) (g : Nat) : (s.requestFlush ses f g).qNumBlocks = s.qNumBlocks := rfl
@[simp] theorem requestFlush_qRank (ses : Session) (f : FlushCmd) (g : Nat) : (s.requestFlush ses f g).qRank = s.qRank := rfl
@[simp] theorem requestFlush_qFlags (ses : Session) (f : FlushCmd) (g : Nat) : (s.requestFlush ses f g).qFlags = s.qFlags := rfl
@[simp] theorem requestFlush_flGen (ses : Session) (f : FlushCmd) (g : Nat) : (s.requestFlush ses f g).flGen = BitVec.ofNat 32 g := rfl
@[simp] theorem requestFlush_flStart (ses : Session) (f : FlushCmd) (g : Nat) : (s.requestFlush ses f g).flStart = BitVec.ofNat 32 (ses.flushStart g) := rfl
@[simp] theorem requestFlush_flLength (ses : Session) (f : FlushCmd) (g : Nat) : (s.requestFlush ses f g).flLength = BitVec.ofNat 32 (ses.flushLength g) := rfl
@[simp] theorem requestFlush_flValid (ses : Session) (f : FlushCmd) (g : Nat) : (s.requestFlush ses f g).flValid = BitVec.ofNat 32 (ses.flushValid g) := rfl
@[simp] theorem requestFlush_session (ses : Session) (f : FlushCmd) (g : Nat) : (s.requestFlush ses f g).session = s.session := rfl
@[simp] theorem requestFlush_blk (ses : Session) (f : FlushCmd) (g : Nat) : (s.requestFlush ses f g).blk = s.blk := rfl
@[simp] theorem requestFlush_dstg (ses : Session) (f : FlushCmd) (g : Nat) : (s.requestFlush ses f g).dstg = s.dstg := rfl
@[simp] theorem requestFlush_cstg (ses : Session) (f : FlushCmd) (g : Nat) : (s.requestFlush ses f g).cstg = s.cstg := rfl
@[simp] theorem requestFlush_activity (ses : Session) (f : FlushCmd) (g : Nat) : (s.requestFlush ses f g).activity = .flushWait f := rfl
@[simp] theorem requestFlush_coeffs (ses : Session) (f : FlushCmd) (g : Nat) : (s.requestFlush ses f g).coeffs = s.coeffs := rfl
@[simp] theorem requestFlush_host (ses : Session) (f : FlushCmd) (g : Nat) : (s.requestFlush ses f g).host = s.host := rfl
@[simp] theorem requestFlush_provider (ses : Session) (f : FlushCmd) (g : Nat) : (s.requestFlush ses f g).provider = s.provider := rfl
@[simp] theorem requestFlush_turns (ses : Session) (f : FlushCmd) (g : Nat) : (s.requestFlush ses f g).turns = s.turns := rfl
@[simp] theorem requestFlush_reads (ses : Session) (f : FlushCmd) (g : Nat) : (s.requestFlush ses f g).reads = s.reads := rfl

@[simp] theorem accept_params (w : Word) : (s.accept w).params = s.params := rfl
@[simp] theorem accept_ctrl (w : Word) : (s.accept w).ctrl = s.ctrl := rfl
@[simp] theorem accept_cmd (w : Word) : (s.accept w).cmd = w := rfl
@[simp] theorem accept_status (w : Word) : (s.accept w).status = { s.status with busy := true } := rfl
@[simp] theorem accept_result (w : Word) : (s.accept w).result = s.result := rfl
@[simp] theorem accept_ioCode (w : Word) : (s.accept w).ioCode = s.ioCode := rfl
@[simp] theorem accept_arg0 (w : Word) : (s.accept w).arg0 = s.arg0 := rfl
@[simp] theorem accept_arg1 (w : Word) : (s.accept w).arg1 = s.arg1 := rfl
@[simp] theorem accept_arg2 (w : Word) : (s.accept w).arg2 = s.arg2 := rfl
@[simp] theorem accept_cfgBlockSize (w : Word) : (s.accept w).cfgBlockSize = s.cfgBlockSize := rfl
@[simp] theorem accept_cfgBlocksPerGen (w : Word) : (s.accept w).cfgBlocksPerGen = s.cfgBlocksPerGen := rfl
@[simp] theorem accept_cfgDataLength (w : Word) : (s.accept w).cfgDataLength = s.cfgDataLength := rfl
@[simp] theorem accept_pktGen (w : Word) : (s.accept w).pktGen = s.pktGen := rfl
@[simp] theorem accept_pktNumBlocks (w : Word) : (s.accept w).pktNumBlocks = s.pktNumBlocks := rfl
@[simp] theorem accept_pktBlockSize (w : Word) : (s.accept w).pktBlockSize = s.pktBlockSize := rfl
@[simp] theorem accept_qGen (w : Word) : (s.accept w).qGen = s.qGen := rfl
@[simp] theorem accept_qNumBlocks (w : Word) : (s.accept w).qNumBlocks = s.qNumBlocks := rfl
@[simp] theorem accept_qRank (w : Word) : (s.accept w).qRank = s.qRank := rfl
@[simp] theorem accept_qFlags (w : Word) : (s.accept w).qFlags = s.qFlags := rfl
@[simp] theorem accept_flGen (w : Word) : (s.accept w).flGen = s.flGen := rfl
@[simp] theorem accept_flStart (w : Word) : (s.accept w).flStart = s.flStart := rfl
@[simp] theorem accept_flLength (w : Word) : (s.accept w).flLength = s.flLength := rfl
@[simp] theorem accept_flValid (w : Word) : (s.accept w).flValid = s.flValid := rfl
@[simp] theorem accept_session (w : Word) : (s.accept w).session = s.session := rfl
@[simp] theorem accept_blk (w : Word) : (s.accept w).blk = s.blk := rfl
@[simp] theorem accept_dstg (w : Word) : (s.accept w).dstg = s.dstg := rfl
@[simp] theorem accept_cstg (w : Word) : (s.accept w).cstg = s.cstg := rfl
@[simp] theorem accept_activity (w : Word) : (s.accept w).activity = s.activity := rfl
@[simp] theorem accept_coeffs (w : Word) : (s.accept w).coeffs = s.coeffs := rfl
@[simp] theorem accept_host (w : Word) : (s.accept w).host = s.host := rfl
@[simp] theorem accept_provider (w : Word) : (s.accept w).provider = s.provider := rfl
@[simp] theorem accept_turns (w : Word) : (s.accept w).turns = s.turns := rfl
@[simp] theorem accept_reads (w : Word) : (s.accept w).reads = s.reads := rfl

@[simp] theorem drop_params : (s.drop).params = s.params := rfl
@[simp] theorem drop_ctrl : (s.drop).ctrl = s.ctrl := rfl
@[simp] theorem drop_cmd : (s.drop).cmd = s.cmd := rfl
@[simp] theorem drop_status : (s.drop).status = { s.status with ovr := true } := rfl
@[simp] theorem drop_result : (s.drop).result = s.result := rfl
@[simp] theorem drop_ioCode : (s.drop).ioCode = s.ioCode := rfl
@[simp] theorem drop_arg0 : (s.drop).arg0 = s.arg0 := rfl
@[simp] theorem drop_arg1 : (s.drop).arg1 = s.arg1 := rfl
@[simp] theorem drop_arg2 : (s.drop).arg2 = s.arg2 := rfl
@[simp] theorem drop_cfgBlockSize : (s.drop).cfgBlockSize = s.cfgBlockSize := rfl
@[simp] theorem drop_cfgBlocksPerGen : (s.drop).cfgBlocksPerGen = s.cfgBlocksPerGen := rfl
@[simp] theorem drop_cfgDataLength : (s.drop).cfgDataLength = s.cfgDataLength := rfl
@[simp] theorem drop_pktGen : (s.drop).pktGen = s.pktGen := rfl
@[simp] theorem drop_pktNumBlocks : (s.drop).pktNumBlocks = s.pktNumBlocks := rfl
@[simp] theorem drop_pktBlockSize : (s.drop).pktBlockSize = s.pktBlockSize := rfl
@[simp] theorem drop_qGen : (s.drop).qGen = s.qGen := rfl
@[simp] theorem drop_qNumBlocks : (s.drop).qNumBlocks = s.qNumBlocks := rfl
@[simp] theorem drop_qRank : (s.drop).qRank = s.qRank := rfl
@[simp] theorem drop_qFlags : (s.drop).qFlags = s.qFlags := rfl
@[simp] theorem drop_flGen : (s.drop).flGen = s.flGen := rfl
@[simp] theorem drop_flStart : (s.drop).flStart = s.flStart := rfl
@[simp] theorem drop_flLength : (s.drop).flLength = s.flLength := rfl
@[simp] theorem drop_flValid : (s.drop).flValid = s.flValid := rfl
@[simp] theorem drop_session : (s.drop).session = s.session := rfl
@[simp] theorem drop_blk : (s.drop).blk = s.blk := rfl
@[simp] theorem drop_dstg : (s.drop).dstg = s.dstg := rfl
@[simp] theorem drop_cstg : (s.drop).cstg = s.cstg := rfl
@[simp] theorem drop_activity : (s.drop).activity = s.activity := rfl
@[simp] theorem drop_coeffs : (s.drop).coeffs = s.coeffs := rfl
@[simp] theorem drop_host : (s.drop).host = s.host := rfl
@[simp] theorem drop_provider : (s.drop).provider = s.provider := rfl
@[simp] theorem drop_turns : (s.drop).turns = s.turns := rfl
@[simp] theorem drop_reads : (s.drop).reads = s.reads := rfl

@[simp] theorem setSpace_params (sp : Space) (m : Memory) : (s.setSpace sp m).params = s.params := by cases sp <;> rfl
@[simp] theorem setSpace_ctrl (sp : Space) (m : Memory) : (s.setSpace sp m).ctrl = s.ctrl := by cases sp <;> rfl
@[simp] theorem setSpace_cmd (sp : Space) (m : Memory) : (s.setSpace sp m).cmd = s.cmd := by cases sp <;> rfl
@[simp] theorem setSpace_status (sp : Space) (m : Memory) : (s.setSpace sp m).status = s.status := by cases sp <;> rfl
@[simp] theorem setSpace_result (sp : Space) (m : Memory) : (s.setSpace sp m).result = s.result := by cases sp <;> rfl
@[simp] theorem setSpace_ioCode (sp : Space) (m : Memory) : (s.setSpace sp m).ioCode = s.ioCode := by cases sp <;> rfl
@[simp] theorem setSpace_arg0 (sp : Space) (m : Memory) : (s.setSpace sp m).arg0 = s.arg0 := by cases sp <;> rfl
@[simp] theorem setSpace_arg1 (sp : Space) (m : Memory) : (s.setSpace sp m).arg1 = s.arg1 := by cases sp <;> rfl
@[simp] theorem setSpace_arg2 (sp : Space) (m : Memory) : (s.setSpace sp m).arg2 = s.arg2 := by cases sp <;> rfl
@[simp] theorem setSpace_cfgBlockSize (sp : Space) (m : Memory) : (s.setSpace sp m).cfgBlockSize = s.cfgBlockSize := by cases sp <;> rfl
@[simp] theorem setSpace_cfgBlocksPerGen (sp : Space) (m : Memory) : (s.setSpace sp m).cfgBlocksPerGen = s.cfgBlocksPerGen := by cases sp <;> rfl
@[simp] theorem setSpace_cfgDataLength (sp : Space) (m : Memory) : (s.setSpace sp m).cfgDataLength = s.cfgDataLength := by cases sp <;> rfl
@[simp] theorem setSpace_pktGen (sp : Space) (m : Memory) : (s.setSpace sp m).pktGen = s.pktGen := by cases sp <;> rfl
@[simp] theorem setSpace_pktNumBlocks (sp : Space) (m : Memory) : (s.setSpace sp m).pktNumBlocks = s.pktNumBlocks := by cases sp <;> rfl
@[simp] theorem setSpace_pktBlockSize (sp : Space) (m : Memory) : (s.setSpace sp m).pktBlockSize = s.pktBlockSize := by cases sp <;> rfl
@[simp] theorem setSpace_qGen (sp : Space) (m : Memory) : (s.setSpace sp m).qGen = s.qGen := by cases sp <;> rfl
@[simp] theorem setSpace_qNumBlocks (sp : Space) (m : Memory) : (s.setSpace sp m).qNumBlocks = s.qNumBlocks := by cases sp <;> rfl
@[simp] theorem setSpace_qRank (sp : Space) (m : Memory) : (s.setSpace sp m).qRank = s.qRank := by cases sp <;> rfl
@[simp] theorem setSpace_qFlags (sp : Space) (m : Memory) : (s.setSpace sp m).qFlags = s.qFlags := by cases sp <;> rfl
@[simp] theorem setSpace_flGen (sp : Space) (m : Memory) : (s.setSpace sp m).flGen = s.flGen := by cases sp <;> rfl
@[simp] theorem setSpace_flStart (sp : Space) (m : Memory) : (s.setSpace sp m).flStart = s.flStart := by cases sp <;> rfl
@[simp] theorem setSpace_flLength (sp : Space) (m : Memory) : (s.setSpace sp m).flLength = s.flLength := by cases sp <;> rfl
@[simp] theorem setSpace_flValid (sp : Space) (m : Memory) : (s.setSpace sp m).flValid = s.flValid := by cases sp <;> rfl
@[simp] theorem setSpace_session (sp : Space) (m : Memory) : (s.setSpace sp m).session = s.session := by cases sp <;> rfl
@[simp] theorem setSpace_activity (sp : Space) (m : Memory) : (s.setSpace sp m).activity = s.activity := by cases sp <;> rfl
@[simp] theorem setSpace_coeffs (sp : Space) (m : Memory) : (s.setSpace sp m).coeffs = s.coeffs := by cases sp <;> rfl
@[simp] theorem setSpace_host (sp : Space) (m : Memory) : (s.setSpace sp m).host = s.host := by cases sp <;> rfl
@[simp] theorem setSpace_provider (sp : Space) (m : Memory) : (s.setSpace sp m).provider = s.provider := by cases sp <;> rfl
@[simp] theorem setSpace_turns (sp : Space) (m : Memory) : (s.setSpace sp m).turns = s.turns := by cases sp <;> rfl
@[simp] theorem setSpace_reads (sp : Space) (m : Memory) : (s.setSpace sp m).reads = s.reads := by cases sp <;> rfl
@[simp] theorem setSpace_space (sp : Space) (m : Memory) : (s.setSpace sp m).space sp = m := by cases sp <;> rfl

theorem setSpace_space_other (sp sp' : Space) (m : Memory) (h : sp' ≠ sp) :
    (s.setSpace sp m).space sp' = s.space sp' := by
  cases sp <;> cases sp' <;> first | rfl | exact absurd rfl h

@[simp] theorem afterReset_params (c : Contents) : (s.afterReset c).params = s.params := rfl
@[simp] theorem afterReset_ctrl (c : Contents) : (s.afterReset c).ctrl = State.reset.ctrl := rfl
@[simp] theorem afterReset_cmd (c : Contents) : (s.afterReset c).cmd = State.reset.cmd := rfl
@[simp] theorem afterReset_status (c : Contents) : (s.afterReset c).status = State.reset.status := rfl
@[simp] theorem afterReset_result (c : Contents) : (s.afterReset c).result = State.reset.result := rfl
@[simp] theorem afterReset_ioCode (c : Contents) : (s.afterReset c).ioCode = State.reset.ioCode := rfl
@[simp] theorem afterReset_arg0 (c : Contents) : (s.afterReset c).arg0 = State.reset.arg0 := rfl
@[simp] theorem afterReset_arg1 (c : Contents) : (s.afterReset c).arg1 = State.reset.arg1 := rfl
@[simp] theorem afterReset_arg2 (c : Contents) : (s.afterReset c).arg2 = State.reset.arg2 := rfl
@[simp] theorem afterReset_cfgBlockSize (c : Contents) : (s.afterReset c).cfgBlockSize = State.reset.cfgBlockSize := rfl
@[simp] theorem afterReset_cfgBlocksPerGen (c : Contents) : (s.afterReset c).cfgBlocksPerGen = State.reset.cfgBlocksPerGen := rfl
@[simp] theorem afterReset_cfgDataLength (c : Contents) : (s.afterReset c).cfgDataLength = State.reset.cfgDataLength := rfl
@[simp] theorem afterReset_pktGen (c : Contents) : (s.afterReset c).pktGen = State.reset.pktGen := rfl
@[simp] theorem afterReset_pktNumBlocks (c : Contents) : (s.afterReset c).pktNumBlocks = State.reset.pktNumBlocks := rfl
@[simp] theorem afterReset_pktBlockSize (c : Contents) : (s.afterReset c).pktBlockSize = State.reset.pktBlockSize := rfl
@[simp] theorem afterReset_qGen (c : Contents) : (s.afterReset c).qGen = State.reset.qGen := rfl
@[simp] theorem afterReset_qNumBlocks (c : Contents) : (s.afterReset c).qNumBlocks = State.reset.qNumBlocks := rfl
@[simp] theorem afterReset_qRank (c : Contents) : (s.afterReset c).qRank = State.reset.qRank := rfl
@[simp] theorem afterReset_qFlags (c : Contents) : (s.afterReset c).qFlags = State.reset.qFlags := rfl
@[simp] theorem afterReset_flGen (c : Contents) : (s.afterReset c).flGen = State.reset.flGen := rfl
@[simp] theorem afterReset_flStart (c : Contents) : (s.afterReset c).flStart = State.reset.flStart := rfl
@[simp] theorem afterReset_flLength (c : Contents) : (s.afterReset c).flLength = State.reset.flLength := rfl
@[simp] theorem afterReset_flValid (c : Contents) : (s.afterReset c).flValid = State.reset.flValid := rfl
@[simp] theorem afterReset_session (c : Contents) : (s.afterReset c).session = State.reset.session := rfl
@[simp] theorem afterReset_blk (c : Contents) : (s.afterReset c).blk = Memory.ofCells s.params.maxBuffer c.blk := rfl
@[simp] theorem afterReset_dstg (c : Contents) : (s.afterReset c).dstg = Memory.ofCells s.params.maxBlockSize c.dstg := rfl
@[simp] theorem afterReset_cstg (c : Contents) : (s.afterReset c).cstg = Memory.ofCells s.params.maxGenBlocks c.cstg := rfl
@[simp] theorem afterReset_activity (c : Contents) : (s.afterReset c).activity = State.reset.activity := rfl
@[simp] theorem afterReset_coeffs (c : Contents) : (s.afterReset c).coeffs = s.coeffs := rfl
@[simp] theorem afterReset_host (c : Contents) : (s.afterReset c).host = s.host := rfl
@[simp] theorem afterReset_provider (c : Contents) : (s.afterReset c).provider = s.provider := rfl
@[simp] theorem afterReset_turns (c : Contents) : (s.afterReset c).turns = s.turns := rfl
@[simp] theorem afterReset_reads (c : Contents) : (s.afterReset c).reads = s.reads := rfl

/-- Where no session is active a session command raises NOT_CONFIGURED. -/
theorem withSession_none (k : Session → State) (h : s.session = none) :
    s.withSession k = s.raise .notConfigured := by
  simp only [withSession, h]

theorem withSession_some (k : Session → State) (ses : Session) (h : s.session = some ses) :
    s.withSession k = k ses := by
  simp only [withSession, h]

/-- All a session command can do: NOT_CONFIGURED without a session, its own rule with one. -/
theorem withSession_cases (k : Session → State) (t : State) (h : s.withSession k = t) :
    (s.session = none ∧ t = s.raise .notConfigured) ∨ ∃ ses, s.session = some ses ∧ t = k ses := by
  cases hs : s.session with
  | none => exact .inl ⟨rfl, by rw [← h, withSession_none s k hs]⟩
  | some ses => exact .inr ⟨ses, rfl, by rw [← h, withSession_some s k ses hs]⟩

end State

end Sys2Proof.Machine
end

