-- ==== Sys2Proof/Laws/Session.lean ====
section
/-! SUPPORT. The laws of sessions: generations read after an update, what a fresh session holds, and the arithmetic of
slots. -/

namespace Sys2Proof.Machine

namespace Session

variable (ses : Session)

@[simp] theorem setGen_mode (g : Nat) (x : Gen) : (ses.setGen g x).mode = ses.mode := rfl
@[simp] theorem setGen_blockSize (g : Nat) (x : Gen) : (ses.setGen g x).blockSize = ses.blockSize := rfl
@[simp] theorem setGen_blocksPerGen (g : Nat) (x : Gen) : (ses.setGen g x).blocksPerGen = ses.blocksPerGen := rfl
@[simp] theorem setGen_dataLength (g : Nat) (x : Gen) : (ses.setGen g x).dataLength = ses.dataLength := rfl
@[simp] theorem setGen_gens (g : Nat) (x : Gen) : (ses.setGen g x).gens = ses.gens.set g x := rfl
@[simp] theorem setGen_numBlocks (g : Nat) (x : Gen) : (ses.setGen g x).numBlocks = ses.numBlocks := rfl
@[simp] theorem setGen_numGenerations (g : Nat) (x : Gen) : (ses.setGen g x).numGenerations = ses.numGenerations := rfl
@[simp] theorem setGen_blocksOf (g h : Nat) (x : Gen) : (ses.setGen g x).blocksOf h = ses.blocksOf h := rfl
@[simp] theorem setGen_slotOffset (g h i : Nat) (x : Gen) : (ses.setGen g x).slotOffset h i = ses.slotOffset h i := rfl

/-- The generation that was replaced. -/
theorem gen_setGen_same (g : Nat) (x : Gen) (h : g < ses.gens.length) : (ses.setGen g x).gen g = x := by
  simp [gen, h]

/-- Every other generation stays. -/
theorem gen_setGen_other (g h : Nat) (x : Gen) (hne : h ≠ g) : (ses.setGen g x).gen h = ses.gen h := by
  simp [gen, Ne.symm hne]

@[simp] theorem finalize_numGenerations (g : Nat) : (ses.finalize g).numGenerations = ses.numGenerations := rfl
@[simp] theorem finalize_blocksOf (g h : Nat) : (ses.finalize g).blocksOf h = ses.blocksOf h := rfl
@[simp] theorem finalize_slotOffset (g h i : Nat) : (ses.finalize g).slotOffset h i = ses.slotOffset h i := rfl
@[simp] theorem commit_numGenerations (g r : Nat) (a : Matrix) : (ses.commit g r a).numGenerations = ses.numGenerations := rfl
@[simp] theorem commit_blocksOf (g h r : Nat) (a : Matrix) : (ses.commit g r a).blocksOf h = ses.blocksOf h := rfl

/-- A fresh session holds one generation for each of its geometry. -/
theorem length_gens_create (mode : Mode) (bs bpg len : Nat) (h : 0 < numGenerationsOf bs bpg len) :
    (create mode bs bpg len).gens.length = (create mode bs bpg len).numGenerations := by
  simp only [create, numGenerations, List.length_append, List.length_replicate, List.length_singleton]
  omega

/-- Each generation of a fresh session is a fresh one of its block count (R214, R215). -/
theorem gen_create (mode : Mode) (bs bpg len g : Nat) (h : g < numGenerationsOf bs bpg len) :
    (create mode bs bpg len).gen g = Gen.fresh mode (genBlocksOf bs bpg len g) := by
  simp only [create, gen]
  by_cases hg : g + 1 < numGenerationsOf bs bpg len
  · rw [List.getD_append _ _ _ _ (by simpa using by omega), List.getD_eq_getElem _ _ (by simpa using by omega)]
    simp [genBlocksOf, hg]
  · have he : g = numGenerationsOf bs bpg len - 1 := by omega
    rw [List.getD_append_right _ _ _ _ (by simp; omega)]
    simp [← he]

/-- Two slots of a session do not overlap (R45). -/
theorem slots_disjoint (g i g' i' : Nat) (h : ses.blocksPerGen * g + i < ses.blocksPerGen * g' + i') :
    ses.slotOffset g i + ses.blockSize ≤ ses.slotOffset g' i' := by
  unfold slotOffset
  calc (ses.blocksPerGen * g + i) * ses.blockSize + ses.blockSize
      = (ses.blocksPerGen * g + i + 1) * ses.blockSize := by ring
    _ ≤ (ses.blocksPerGen * g' + i') * ses.blockSize := Nat.mul_le_mul_right _ h

end Session

namespace Partition

/-- `numBlocks` blocks hold the data, and one fewer do not (R210). -/
theorem numBlocksOf_bounds (bs len : Nat) (hb : 0 < bs) (hl : 0 < len) :
    0 < numBlocksOf bs len ∧ len ≤ numBlocksOf bs len * bs ∧ (numBlocksOf bs len - 1) * bs < len := by
  unfold numBlocksOf ceilDiv
  have h1 : (len + bs - 1) / bs * bs ≤ len + bs - 1 := Nat.div_mul_le_self _ _
  have h2 : len + bs - 1 < ((len + bs - 1) / bs + 1) * bs := by
    rw [Nat.mul_comm]
    exact Nat.lt_mul_div_succ _ hb
  have h3 : 0 < (len + bs - 1) / bs := Nat.div_pos (by omega) hb
  refine ⟨h3, ?_, ?_⟩
  · rw [Nat.add_mul] at h2
    omega
  · rw [Nat.sub_mul]
    omega

/-- There is a generation, the last one starts at a block, and the generations hold every block (R210). -/
theorem numGenerationsOf_bounds (bs bpg len : Nat) (hb : 0 < bs) (hg : 0 < bpg) (hl : 0 < len) :
    0 < numGenerationsOf bs bpg len ∧ numBlocksOf bs len ≤ numGenerationsOf bs bpg len * bpg ∧
      (numGenerationsOf bs bpg len - 1) * bpg < numBlocksOf bs len :=
  numBlocksOf_bounds bpg (numBlocksOf bs len) hg (numBlocksOf_bounds bs len hb hl).1

/-- Each generation holds 1 to blocksPerGeneration blocks (R40). -/
theorem genBlocksOf_bounds (bs bpg len g : Nat) (hb : 0 < bs) (hg : 0 < bpg) (hl : 0 < len) :
    0 < genBlocksOf bs bpg len g ∧ genBlocksOf bs bpg len g ≤ bpg := by
  have h := numGenerationsOf_bounds bs bpg len hb hg hl
  unfold genBlocksOf
  split
  · omega
  · rw [Nat.mul_comm bpg]
    have : numGenerationsOf bs bpg len * bpg = (numGenerationsOf bs bpg len - 1) * bpg + bpg := by
      conv_lhs => rw [show numGenerationsOf bs bpg len = numGenerationsOf bs bpg len - 1 + 1 by omega]
      ring
    omega

/-- The blocks of generation g end within the blocks of the session (R211). -/
theorem genBlocksOf_fits (bs bpg len g : Nat) (hb : 0 < bs) (hg : 0 < bpg) (hl : 0 < len)
    (h : g < numGenerationsOf bs bpg len) : bpg * g + genBlocksOf bs bpg len g ≤ numBlocksOf bs len := by
  have hn := numGenerationsOf_bounds bs bpg len hb hg hl
  unfold genBlocksOf
  split
  · next hlt =>
    have : bpg * (g + 1) ≤ bpg * (numGenerationsOf bs bpg len - 1) := Nat.mul_le_mul_left _ (by omega)
    rw [Nat.mul_comm bpg (_ - 1)] at this
    rw [Nat.mul_add] at this
    omega
  · have : g = numGenerationsOf bs bpg len - 1 := by omega
    subst this
    have := hn.2.2
    rw [Nat.mul_comm] at this
    omega

end Partition

/-- The slots of a generation lie in the session buffer (R211). -/
theorem Session.slot_within (ses : Session) (g i : Nat) (hb : 0 < ses.blockSize) (hg : 0 < ses.blocksPerGen)
    (hl : 0 < ses.dataLength) (h : g < ses.numGenerations) (hi : i < ses.blocksOf g) :
    ses.slotOffset g i + ses.blockSize ≤ ses.bufferSize := by
  have hf := Partition.genBlocksOf_fits ses.blockSize ses.blocksPerGen ses.dataLength g hb hg hl h
  have hi' : i < genBlocksOf ses.blockSize ses.blocksPerGen ses.dataLength g := hi
  unfold Session.slotOffset Session.bufferSize bufferSizeOf
  calc (ses.blocksPerGen * g + i) * ses.blockSize + ses.blockSize
      = (ses.blocksPerGen * g + i + 1) * ses.blockSize := by ring
    _ ≤ numBlocksOf ses.blockSize ses.dataLength * ses.blockSize := Nat.mul_le_mul_right _ (by omega)

end Sys2Proof.Machine
end

