-- ==== Sys2Proof/Laws/Exec.lean ====
section
/-! SUPPORT. What a command can do: every command answers a next state, and one equation for each way a step goes. -/

namespace Sys2Proof.Machine

/-- A command never faults and is never refused: its errors are completions (R349). -/
theorem exec_next (i : Instr) (s : State) : ∃ t, exec i s = .next t := by
  cases i <;> exact ⟨_, rfl⟩

/-- execute never faults either: an illegal word raises (R341). -/
theorem execute_next (w : Word) (s : State) : ∃ t, execute w s = .next t := by
  unfold execute
  split
  · exact exec_next _ s
  · exact ⟨_, rfl⟩

/-- A CMD write answers a next state (R111). -/
theorem issue_next (w : Word) (s : State) : ∃ t, issue w s = .next t := by
  unfold issue
  split
  · exact ⟨_, rfl⟩
  · exact execute_next w _

theorem issue_busy (w : Word) (s : State) (h : s.status.busy = true) : issue w s = .next s.drop := by
  simp [issue, h]

theorem issue_idle (w : Word) (s : State) (h : s.status.busy = false) : issue w s = execute w (s.accept w) := by
  simp [issue, h]

theorem execute_ok (w : Word) (i : Instr) (s : State) (h : decode w = .ok i) : execute w s = exec i s := by
  simp [execute, h]

theorem execute_error (w : Word) (e : DecodeError) (s : State) (h : decode w = .error e) :
    execute w s = .next (s.raise .illegalCmd) := by
  simp [execute, h]

/-- Every register is found at its own offset (R31). -/
theorem ofOffset_offset (r : Reg) : Reg.ofOffset r.offset = some r := by
  cases r <;> decide

/-- A 32-bit access at a register's offset reaches that register (R81). -/
theorem resolve_reg (p : Config.Params) (r : Reg) : resolve p .word r.offset = .ok (.reg r) := by
  unfold resolve
  rw [ofOffset_offset]
  cases r <;> simp [Reg.offset, windowSize]

/-- A write of a command word to the CMD register issues it (R88). -/
theorem hostWrite_cmd (w : Word) (s : State) : hostWrite .word Reg.cmd.offset w s = issue w s := by
  unfold hostWrite
  rw [resolve_reg]

/-- A write to FLUSH_ACK answers a request (R88, R315). -/
theorem hostWrite_flushAck (v : Word) (s : State) :
    hostWrite .word Reg.flushAck.offset v s = .next (acknowledge v s) := by
  unfold hostWrite
  rw [resolve_reg]

/-- All a host write can do: a bus error, a command issue, an acknowledgement, a hazard, or a stored value. -/
theorem hostWrite_cases (w : Width) (a : Nat) (v : Word) (s : State) :
    (∃ e, resolve s.params w a = .error e ∧ hostWrite w a v s = .fault (.busError e)) ∨
    (resolve s.params w a = .ok (.reg .cmd) ∧ hostWrite w a v s = issue v s) ∨
    (resolve s.params w a = .ok (.reg .flushAck) ∧ hostWrite w a v s = .next (acknowledge v s)) ∨
    (∃ t, resolve s.params w a = .ok t ∧ t ≠ .reg .cmd ∧ t ≠ .reg .flushAck ∧
      ((s.status.busy = true ∧ hostWrite w a v s = .fault .busyHazard) ∨
       (s.status.busy = false ∧ hostWrite w a v s = .next (s.writeTarget w v t)))) := by
  unfold hostWrite
  cases hr : resolve s.params w a with
  | error e => exact .inl ⟨e, rfl, rfl⟩
  | ok t =>
    by_cases h1 : t = .reg .cmd
    · subst h1
      exact .inr (.inl ⟨rfl, rfl⟩)
    · by_cases h2 : t = .reg .flushAck
      · subst h2
        exact .inr (.inr (.inl ⟨rfl, rfl⟩))
      · refine .inr (.inr (.inr ⟨t, rfl, h1, h2, ?_⟩))
        cases hb : s.status.busy <;> simp

/-- A 32-bit read at a register's offset records what the register reads as (R31, R88). -/
theorem hostRead_reg (r : Reg) (s : State) :
    hostRead .word r.offset s = .next { s with reads := s.readReg r :: s.reads } := by
  unfold hostRead
  rw [resolve_reg]
  rfl

/-- A poll of `wait` records STATUS and keeps the statement while BUSY is 1 (R119). -/
theorem hostPoll_eq (s : State) :
    hostPoll s = .next { s with
      host := if s.status.busy then .wait :: s.host else s.host
      reads := s.status.toWord :: s.reads } := by
  unfold hostPoll
  rw [hostRead_reg]
  cases s.status.busy <;> rfl

/-- What the step is, by whose turn it is. -/
theorem step_eq (s : State) : step s = act (nextTurn s) (popTurn s) := rfl

theorem step_host (s : State) (h : nextTurn s = .host) : step s = hostMove (popTurn s) := by
  rw [step_eq, h]
  rfl

theorem step_core (s : State) (h : nextTurn s = .core) : step s = .next (coreStep (popTurn s)) := by
  rw [step_eq, h]
  rfl

theorem step_provider (s : State) (h : nextTurn s = .provider) : step s = .next (providerMove (popTurn s)) := by
  rw [step_eq, h]
  rfl

theorem step_reset (s : State) (c : Contents) (h : nextTurn s = .reset c) :
    step s = .next ((popTurn s).afterReset c) := by
  rw [step_eq, h]
  rfl

/-- All FLUSH_ALL's loop can do from generation `g` on: it finishes, or it stops at the first generation whose flush
needs the provider. -/
theorem flushFrom_cases (ses : Session) (k g : Nat) (ok : Bool) (s : State) :
    (∃ b, flushFrom ses k g ok s = s.finish b) ∨
    (∃ g' b, g ≤ g' ∧ g' < g + k ∧ flushVerdict s.flushHs ses g' = none ∧
      flushFrom ses k g ok s = s.requestFlush ses (.all g' b) g') := by
  induction k generalizing g ok with
  | zero => exact .inl ⟨ok, rfl⟩
  | succ k ih =>
    simp only [flushFrom]
    cases hv : flushVerdict s.flushHs ses g with
    | none => exact .inr ⟨g, ok, Nat.le_refl g, by omega, hv, rfl⟩
    | some b =>
      rcases ih (g + 1) (ok && b) with ⟨b', h⟩ | ⟨g', b', h1, h2, h3, h4⟩
      · exact .inl ⟨b', h⟩
      · exact .inr ⟨g', b', by omega, by omega, h3, h4⟩

/-- A generation whose flush needs the provider exists and is decoded, and FLUSH_HS is 1 (R310). -/
theorem flushVerdict_none (hs : Bool) (ses : Session) (g : Nat) (h : flushVerdict hs ses g = none) :
    g < ses.numGenerations ∧ (ses.gen g).decoded = true ∧ hs = true := by
  unfold flushVerdict at h
  split at h
  · simp at h
  · split at h
    · simp at h
    · split at h
      · simp at h
      · simp_all

end Sys2Proof.Machine
end

