-- ==== Sys2Proof/Laws/Field.lean ====
section
/-! SUPPORT. The tables of the field unit: for every legal GF_POLY the powers of 3 run through every nonzero byte, so
the log table inverts the antilog table (R150, R151, R159). -/

namespace Sys2Proof.Machine

theorem genPow_succ (p : BitVec 9) (e : Nat) : genPow p (e + 1) = mulGen p (genPow p e) := rfl

/-- The search finds the least exponent from `e` on, if there is one within the fuel. -/
theorem findLog_eq (p : BitVec 9) (x : Byte) (fuel e k : Nat) (hk : k ≤ fuel) (hx : genPow p (e + k) = x)
    (hmin : ∀ j < k, genPow p (e + j) ≠ x) : findLog p x fuel e (genPow p e) = e + k := by
  induction fuel generalizing e k with
  | zero =>
    obtain rfl : k = 0 := by omega
    rfl
  | succ fuel ih =>
    simp only [findLog]
    cases k with
    | zero => rw [if_pos (by simpa using hx)]; rfl
    | succ k =>
      rw [if_neg (by simpa using hmin 0 (by omega)), ← genPow_succ,
        ih (e + 1) k (by omega) (by rw [← hx]; congr 1; omega)
          (fun j hj => by have := hmin (j + 1) (by omega); rwa [show e + 1 + j = e + (j + 1) by omega])]
      omega

/-- Multiplication by x is linear over XOR. -/
theorem xtime_xor (p : BitVec 9) (x y : Byte) : xtime p (x ^^^ y) = xtime p x ^^^ xtime p y := by
  have hs : (x ^^^ y) <<< 1 = x <<< 1 ^^^ y <<< 1 := BitVec.shiftLeft_xor_distrib ..
  unfold xtime
  rw [BitVec.getLsbD_xor, hs]
  cases x.getLsbD 7 <;> cases y.getLsbD 7 <;> simp only [Bool.bne_true, Bool.bne_false, Bool.not_true, Bool.not_false,
    Bool.false_eq_true, ↓reduceIte]
  · rw [BitVec.xor_assoc]
  · rw [BitVec.xor_assoc, BitVec.xor_assoc, BitVec.xor_comm (y <<< 1)]
  · rw [BitVec.xor_assoc (x <<< 1), BitVec.xor_comm (p.setWidth 8), BitVec.xor_assoc (y <<< 1), BitVec.xor_self,
      BitVec.xor_zero]

/-- Multiplication by the generator is linear over XOR. -/
theorem mulGen_xor (p : BitVec 9) (x y : Byte) : mulGen p (x ^^^ y) = mulGen p x ^^^ mulGen p y := by
  unfold mulGen
  rw [xtime_xor]
  ac_rfl

@[simp] theorem mulGen_zero (p : BitVec 9) : mulGen p 0 = 0 := by
  simp [mulGen, xtime]

/-- For a legal GF_POLY only 0 is taken to 0 by the generator. -/
theorem mulGen_eq_zero : ∀ p ∈ Config.legalPolys, ∀ x : Byte, mulGen p x = 0 → x = 0 := by
  have h : ∀ p ∈ Config.legalPolys, ∀ x : Fin 256, mulGen p (BitVec.ofFin x) = 0 → x = 0 := by decide +kernel
  intro p hp x hx
  have := h p hp x.toFin hx
  exact BitVec.eq_of_toFin_eq this

theorem mulGen_injective (p : BitVec 9) (hp : p ∈ Config.legalPolys) (x y : Byte) (h : mulGen p x = mulGen p y) :
    x = y := by
  have : mulGen p (x ^^^ y) = 0#8 := by rw [mulGen_xor, h, BitVec.xor_self]
  exact BitVec.xor_eq_zero_iff.1 (mulGen_eq_zero p hp _ this)

theorem genPow_ne_zero (p : BitVec 9) (hp : p ∈ Config.legalPolys) (e : Nat) : genPow p e ≠ 0 := by
  induction e with
  | zero => simp [genPow]
  | succ e ih => exact fun h => ih (mulGen_eq_zero p hp _ h)

/-- None of the `k` powers from `y` on is 1. -/
def avoidsOne (p : BitVec 9) : (k : Nat) → (y : Byte) → Bool
  | 0, _ => true
  | k + 1, y => y != 1 && avoidsOne p k (mulGen p y)

theorem avoidsOne_spec (p : BitVec 9) (k e : Nat) (h : avoidsOne p k (genPow p e) = true) :
    ∀ j < k, genPow p (e + j) ≠ 1 := by
  induction k generalizing e with
  | zero => intro j hj; omega
  | succ k ih =>
    simp only [avoidsOne, Bool.and_eq_true, bne_iff_ne, ne_eq] at h
    intro j hj
    cases j with
    | zero => exact h.1
    | succ j =>
      rw [show e + (j + 1) = e + 1 + j by omega]
      exact ih (e + 1) h.2 j (by omega)

/-- For a legal GF_POLY the order of 3 is 255. -/
theorem genPow_order (p : BitVec 9) (hp : p ∈ Config.legalPolys) :
    genPow p 255 = 1 ∧ ∀ e, 0 < e → e < 255 → genPow p e ≠ 1 := by
  have h1 : ∀ p ∈ Config.legalPolys, genPow p 255 = 1 := by decide +kernel
  have h2 : ∀ p ∈ Config.legalPolys, avoidsOne p 254 (genPow p 1) = true := by decide +kernel
  refine ⟨h1 p hp, fun e h0 h => ?_⟩
  have := avoidsOne_spec p 254 1 (h2 p hp) (e - 1) (by omega)
  rwa [show 1 + (e - 1) = e by omega] at this

/-- The powers of 3 repeat after 255. -/
theorem genPow_add_period (p : BitVec 9) (hp : p ∈ Config.legalPolys) (e : Nat) : genPow p (e + 255) = genPow p e := by
  induction e with
  | zero => exact (genPow_order p hp).1
  | succ e ih => rw [show e + 1 + 255 = e + 255 + 1 by omega, genPow_succ, ih, genPow_succ]

theorem genPow_mod (p : BitVec 9) (hp : p ∈ Config.legalPolys) (e : Nat) : genPow p (e % 255) = genPow p e := by
  have key : ∀ q r, genPow p (r + 255 * q) = genPow p r := by
    intro q r
    induction q with
    | zero => rfl
    | succ q ih => rw [show r + 255 * (q + 1) = r + 255 * q + 255 by omega, genPow_add_period p hp, ih]
  rw [← key (e / 255) (e % 255), Nat.mod_add_div]

/-- Below 255 different exponents give different powers. -/
theorem genPow_injective (p : BitVec 9) (hp : p ∈ Config.legalPolys) (i j : Nat) (hi : i < 255) (hj : j < 255)
    (h : genPow p i = genPow p j) : i = j := by
  have cancel : ∀ i d, genPow p i = genPow p (i + d) → genPow p d = 1 := by
    intro i
    induction i with
    | zero => intro d h; rw [Nat.zero_add] at h; exact h.symm
    | succ i ih =>
      intro d h
      rw [show i + 1 + d = i + d + 1 by omega] at h
      exact ih d (mulGen_injective p hp _ _ h)
  rcases Nat.lt_trichotomy i j with hij | hij | hij
  · exact absurd (cancel i (j - i) (by rw [h]; congr 1; omega)) ((genPow_order p hp).2 _ (by omega) (by omega))
  · exact hij
  · exact absurd (cancel j (i - j) (by rw [← h]; congr 1; omega)) ((genPow_order p hp).2 _ (by omega) (by omega))

/-- Every nonzero byte is a power of 3. -/
theorem genPow_surjective (p : BitVec 9) (hp : p ∈ Config.legalPolys) (x : Byte) (hx : x ≠ 0) :
    ∃ e < 255, genPow p e = x := by
  let f : Fin 255 → Fin 256 := fun e => (genPow p e).toFin
  have hf : Function.Injective f := fun i j h =>
    Fin.ext (genPow_injective p hp i j i.2 j.2 (BitVec.eq_of_toFin_eq h))
  have himg : Finset.univ.image f = Finset.univ.erase 0 := by
    refine Finset.eq_of_subset_of_card_le (fun y hy => ?_) ?_
    · obtain ⟨e, -, rfl⟩ := Finset.mem_image.1 hy
      refine Finset.mem_erase.2 ⟨fun h => genPow_ne_zero p hp e (BitVec.eq_of_toFin_eq h), Finset.mem_univ _⟩
    · rw [Finset.card_image_of_injective _ hf]
      simp
  have hmem : x.toFin ∈ Finset.univ.image f := by
    rw [himg]
    exact Finset.mem_erase.2 ⟨fun h => hx (BitVec.eq_of_toFin_eq h), Finset.mem_univ _⟩
  obtain ⟨e, -, he⟩ := Finset.mem_image.1 hmem
  exact ⟨e, e.2, BitVec.eq_of_toFin_eq he⟩

/-- The log of a power below 255 is its exponent (R150). -/
theorem gfLog_genPow (p : BitVec 9) (hp : p ∈ Config.legalPolys) (e : Nat) (he : e < 255) :
    gfLog p (genPow p e) = e := by
  unfold gfLog
  rw [if_neg (genPow_ne_zero p hp e)]
  have := findLog_eq p (genPow p e) 254 0 e (by omega) (by simp)
    (fun j hj h => by have := genPow_injective p hp j e (by omega) he (by simpa using h); omega)
  simpa [genPow] using this

/-- The log of a nonzero byte is below 255, and its power is the byte (R150, R159). -/
theorem genPow_gfLog (p : BitVec 9) (hp : p ∈ Config.legalPolys) (x : Byte) (hx : x ≠ 0) :
    gfLog p x < 255 ∧ genPow p (gfLog p x) = x := by
  obtain ⟨e, he, rfl⟩ := genPow_surjective p hp x hx
  rw [gfLog_genPow p hp e he]
  exact ⟨he, rfl⟩

end Sys2Proof.Machine
end

