-- ==== Sys2Proof/Laws/Memory.lean ====
section
/-! SUPPORT. The laws of byte memories: read after write, the canonical form and the bound of every operation, and
what each range operation leaves at each offset. -/

namespace Sys2Proof.Machine.Memory

/-! ### One byte -/

@[simp] theorem read_nil (a : Nat) : read [] a = unlisted := rfl

theorem read_cons (c : Host.Cell) (m : Memory) (a : Nat) : read (c :: m) a = if c.1 = a then c.2 else read m a := rfl

/-- An offset below every cell of a sorted memory is unlisted. -/
theorem read_of_lt (m : Memory) (a : Nat) (h : ∀ c ∈ m, a < c.1) : m.read a = unlisted := by
  induction m with
  | nil => rfl
  | cons c m ih =>
    have hc := h c (by simp)
    rw [read_cons, if_neg (by omega)]
    exact ih fun d hd => h d (by simp [hd])

theorem wf_iff (m : Memory) :
    m.wf = true ↔ m.Pairwise (fun c d => c.1 < d.1) ∧ ∀ c ∈ m, c.2 ≠ unlisted := by
  simp [wf]

theorem within_iff (size : Nat) (m : Memory) : m.within size = true ↔ ∀ c ∈ m, c.1 < size := by
  simp [within]

/-- The cells of a written memory are cells of the old one, or the written cell, which is then no unlisted byte. -/
theorem mem_write (m : Memory) (a : Nat) (v : Byte) (c : Host.Cell) (h : c ∈ m.write a v) :
    c ∈ m ∨ (c = (a, v) ∧ v ≠ unlisted) := by
  induction m with
  | nil =>
    simp only [write] at h
    split at h <;> simp_all
  | cons d m ih =>
    obtain ⟨b, w⟩ := d
    simp only [write] at h
    split at h
    · split at h
      · exact .inl h
      · simp only [List.mem_cons] at h ⊢
        tauto
    · split at h
      · split at h
        · exact .inl (by simp [h])
        · simp only [List.mem_cons] at h ⊢
          tauto
      · simp only [List.mem_cons] at h ⊢
        rcases h with h | h
        · exact .inl (.inl h)
        · rcases ih h with h | h
          · exact .inl (.inr h)
          · exact .inr h

/-- A write keeps the canonical form. -/
theorem write_wf (m : Memory) (a : Nat) (v : Byte) (h : m.wf = true) : (m.write a v).wf = true := by
  rw [wf_iff] at h ⊢
  refine ⟨?_, fun c hc => ?_⟩
  · obtain ⟨hs, -⟩ := h
    induction m with
    | nil =>
      simp only [write]
      split <;> simp
    | cons d m ih =>
      obtain ⟨b, w⟩ := d
      obtain ⟨hb, hm⟩ := List.pairwise_cons.1 hs
      simp only [write]
      split
      · next hab =>
        split
        · exact hs
        · refine List.pairwise_cons.2 ⟨fun c hc => ?_, hs⟩
          rcases List.mem_cons.1 hc with rfl | hc
          · exact hab
          · exact Nat.lt_trans hab (hb c hc)
      · split
        · next hab =>
          subst hab
          split
          · exact hm
          · exact List.pairwise_cons.2 ⟨hb, hm⟩
        · refine List.pairwise_cons.2 ⟨fun c hc => ?_, ih hm⟩
          rcases mem_write m a v c hc with hc | ⟨rfl, -⟩
          · exact hb c hc
          · show b < a
            omega
  · rcases mem_write m a v c hc with hc | ⟨rfl, hv⟩
    · exact h.2 c hc
    · exact hv

/-- A write below the size keeps the bound. -/
theorem write_within (size : Nat) (m : Memory) (a : Nat) (v : Byte) (h : m.within size = true) (ha : a < size) :
    (m.write a v).within size = true := by
  rw [within_iff] at h ⊢
  intro c hc
  rcases mem_write m a v c hc with hc | ⟨rfl, -⟩
  · exact h c hc
  · exact ha

/-- A read of another offset than the written one gives what it gave before. -/
theorem read_write_other (m : Memory) (a b : Nat) (v : Byte) (h : b ≠ a) : (m.write a v).read b = m.read b := by
  induction m with
  | nil =>
    simp only [write]
    split
    · rfl
    · rw [read_cons, if_neg (Ne.symm h)]
  | cons d m ih =>
    obtain ⟨c, w⟩ := d
    simp only [write]
    split
    · split
      · rfl
      · rw [read_cons, if_neg (Ne.symm h)]
    · split
      · next hac =>
        subst hac
        split <;> simp only [read_cons, if_neg (Ne.symm h)]
      · simp only [read_cons, ih]

/-- A read of the written offset gives the written byte, in a memory in canonical form. -/
theorem read_write_same (m : Memory) (a : Nat) (v : Byte) (h : m.wf = true) : (m.write a v).read a = v := by
  rw [wf_iff] at h
  obtain ⟨hs, -⟩ := h
  induction m with
  | nil =>
    simp only [write]
    split
    · next hv => rw [hv]; rfl
    · rw [read_cons, if_pos rfl]
  | cons d m ih =>
    obtain ⟨c, w⟩ := d
    obtain ⟨hc, hm⟩ := List.pairwise_cons.1 hs
    simp only [write]
    split
    · next hac =>
      split
      · next hv =>
        rw [hv]
        refine read_of_lt _ _ fun d hd => ?_
        rcases List.mem_cons.1 hd with rfl | hd
        · exact hac
        · exact Nat.lt_trans hac (hc d hd)
      · rw [read_cons, if_pos rfl]
    · split
      · next hac =>
        subst hac
        split
        · next hv =>
          rw [hv]
          exact read_of_lt _ _ hc
        · rw [read_cons, if_pos rfl]
      · next hac =>
        rw [read_cons, if_neg (fun hca => hac (hca : c = a).symm)]
        exact ih hm

/-- What a write leaves at each offset. -/
theorem read_write (m : Memory) (a b : Nat) (v : Byte) (h : m.wf = true) :
    (m.write a v).read b = if b = a then v else m.read b := by
  split
  · next hb => rw [hb, read_write_same m a v h]
  · next hb => exact read_write_other m a b v hb

/-- Two memories in canonical form that read the same everywhere are equal. -/
theorem ext_of_read (m m' : Memory) (h : m.wf = true) (h' : m'.wf = true) (hr : ∀ a, m.read a = m'.read a) : m = m' := by
  rw [wf_iff] at h h'
  obtain ⟨hs, hz⟩ := h
  obtain ⟨hs', hz'⟩ := h'
  induction m generalizing m' with
  | nil =>
    cases m' with
    | nil => rfl
    | cons d m' =>
      have := hr d.1
      rw [read_cons, if_pos rfl] at this
      exact absurd this.symm (hz' d (by simp))
  | cons c m ih =>
    obtain ⟨hc, hm⟩ := List.pairwise_cons.1 hs
    cases m' with
    | nil =>
      have := hr c.1
      rw [read_cons, if_pos rfl] at this
      exact absurd this (hz c (by simp))
    | cons d m' =>
      obtain ⟨hd, hm'⟩ := List.pairwise_cons.1 hs'
      have hcd : c.1 = d.1 := by
        rcases Nat.lt_trichotomy c.1 d.1 with h | h | h
        · have := hr c.1
          rw [read_cons, if_pos rfl, read_cons, if_neg (by omega),
            read_of_lt m' _ fun e he => Nat.lt_trans h (hd e he)] at this
          exact absurd this (hz c (by simp))
        · exact h
        · have := hr d.1
          rw [read_cons, if_neg (by omega), read_of_lt m _ fun e he => Nat.lt_trans h (hc e he),
            read_cons, if_pos rfl] at this
          exact absurd this.symm (hz' d (by simp))
      have hv : c.2 = d.2 := by
        have := hr c.1
        rwa [read_cons, if_pos rfl, read_cons, if_pos hcd.symm] at this
      have htail : ∀ a, read m a = read m' a := by
        intro a
        by_cases ha : c.1 = a
        · rw [read_of_lt m a fun e he => by have := hc e he; omega,
            read_of_lt m' a fun e he => by have := hd e he; omega]
        · have := hr a
          rwa [read_cons, if_neg ha, read_cons, if_neg (by omega)] at this
      rw [Prod.ext hcd hv, ih m' htail hm (fun e he => hz e (by simp [he])) hm' (fun e he => hz' e (by simp [he]))]

/-- Writing the byte that is there changes nothing. -/
theorem write_read_self (m : Memory) (a : Nat) (h : m.wf = true) : m.write a (m.read a) = m := by
  refine ext_of_read _ _ (write_wf m a _ h) h fun b => ?_
  rw [read_write m a b _ h]
  split
  · next hb => rw [hb]
  · rfl

/-! ### Runs of bytes -/

@[simp] theorem length_readBytes (m : Memory) (a n : Nat) : (m.readBytes a n).length = n := by
  induction n generalizing a with
  | zero => rfl
  | succ n ih => simp [readBytes, ih]

theorem getElem_readBytes (m : Memory) (a n i : Nat) (h : i < (m.readBytes a n).length) :
    (m.readBytes a n)[i] = m.read (a + i) := by
  induction n generalizing a i with
  | zero => simp at h
  | succ n ih =>
    cases i with
    | zero => rfl
    | succ i =>
      simp only [readBytes, List.getElem_cons_succ]
      rw [ih]
      congr 1
      omega

theorem getD_readBytes (m : Memory) (a n i : Nat) (h : i < n) : (m.readBytes a n).getD i 0 = m.read (a + i) := by
  rw [List.getD_eq_getElem _ _ (by simpa using h), getElem_readBytes]

theorem writeBytes_wf (m : Memory) (a : Nat) (vs : List Byte) (h : m.wf = true) : (m.writeBytes a vs).wf = true := by
  induction vs generalizing m a with
  | nil => exact h
  | cons v vs ih => exact ih _ _ (write_wf m a v h)

theorem writeBytes_within (size : Nat) (m : Memory) (a : Nat) (vs : List Byte) (h : m.within size = true)
    (ha : a + vs.length ≤ size) : (m.writeBytes a vs).within size = true := by
  induction vs generalizing m a with
  | nil => exact h
  | cons v vs ih =>
    simp only [List.length_cons] at ha
    exact ih _ _ (write_within size m a v h (by omega)) (by omega)

/-- A run of bytes written leaves every offset outside it as it was. -/
theorem read_writeBytes_outside (m : Memory) (a b : Nat) (vs : List Byte) (h : b < a ∨ a + vs.length ≤ b) :
    (m.writeBytes a vs).read b = m.read b := by
  induction vs generalizing m a with
  | nil => rfl
  | cons v vs ih =>
    simp only [List.length_cons] at h
    simp only [writeBytes]
    rw [ih _ _ (by omega), read_write_other m a b v (by omega)]

/-- A run of bytes written reads back. -/
theorem read_writeBytes_inside (m : Memory) (a i : Nat) (vs : List Byte) (h : m.wf = true) (hi : i < vs.length) :
    (m.writeBytes a vs).read (a + i) = vs[i] := by
  induction vs generalizing m a i with
  | nil => simp at hi
  | cons v vs ih =>
    cases i with
    | zero =>
      simp only [writeBytes, Nat.add_zero, List.getElem_cons_zero]
      rw [read_writeBytes_outside _ _ _ _ (by omega), read_write_same m a v h]
    | succ i =>
      simp only [writeBytes, List.getElem_cons_succ]
      rw [show a + (i + 1) = a + 1 + i by omega]
      exact ih _ _ _ (write_wf m a v h) _

/-- What a run of bytes written leaves at each offset. -/
theorem read_writeBytes (m : Memory) (a b : Nat) (vs : List Byte) (h : m.wf = true) :
    (m.writeBytes a vs).read b = if a ≤ b ∧ b < a + vs.length then vs.getD (b - a) 0 else m.read b := by
  split
  · next hb =>
    have hi : b - a < vs.length := by omega
    have := read_writeBytes_inside m a (b - a) vs h hi
    rw [show a + (b - a) = b by omega] at this
    rw [this, List.getD_eq_getElem _ _ hi]
  · next hb => exact read_writeBytes_outside m a b vs (by omega)

/-- A run reads the same in memories that agree on it. -/
theorem readBytes_congr (m m' : Memory) (a n : Nat) (h : ∀ i < n, m.read (a + i) = m'.read (a + i)) :
    m.readBytes a n = m'.readBytes a n := by
  refine List.ext_getElem (by simp) fun i hi _ => ?_
  rw [getElem_readBytes, getElem_readBytes]
  exact h i (by simpa using hi)

/-- A run of bytes written reads back whole. -/
theorem readBytes_writeBytes_same (m : Memory) (a : Nat) (vs : List Byte) (h : m.wf = true) :
    (m.writeBytes a vs).readBytes a vs.length = vs := by
  refine List.ext_getElem (by simp) fun i hi hi' => ?_
  rw [getElem_readBytes, read_writeBytes_inside m a i vs h hi']

/-- A run read beside a run written reads as before. -/
theorem readBytes_writeBytes_disjoint (m : Memory) (a b n : Nat) (vs : List Byte)
    (h : b + n ≤ a ∨ a + vs.length ≤ b) : (m.writeBytes a vs).readBytes b n = m.readBytes b n :=
  readBytes_congr _ _ _ _ fun i hi => read_writeBytes_outside m a (b + i) vs (by omega)

/-! ### Filling with zeros -/

theorem zeroFill_wf (m : Memory) (lo hi : Nat) (h : m.wf = true) : (m.zeroFill lo hi).wf = true := by
  rw [wf_iff] at h ⊢
  exact ⟨h.1.sublist List.filter_sublist, fun c hc => h.2 c (List.mem_of_mem_filter hc)⟩

theorem zeroFill_within (size : Nat) (m : Memory) (lo hi : Nat) (h : m.within size = true) :
    (m.zeroFill lo hi).within size = true := by
  rw [within_iff] at h ⊢
  exact fun c hc => h c (List.mem_of_mem_filter hc)

/-- What zero filling leaves at each offset. -/
theorem read_zeroFill (m : Memory) (lo hi a : Nat) :
    (m.zeroFill lo hi).read a = if lo ≤ a ∧ a < hi then 0 else m.read a := by
  induction m with
  | nil => simp [zeroFill]
  | cons c m ih =>
    simp only [zeroFill, List.filter_cons] at ih ⊢
    by_cases hk : c.1 < lo ∨ hi ≤ c.1
    · rw [if_pos (by simpa using hk), read_cons, read_cons, ih]
      by_cases hca : c.1 = a
      · rw [if_pos hca, if_pos hca, if_neg (by omega)]
      · rw [if_neg hca, if_neg hca]
    · rw [if_neg (by simpa using hk), ih, read_cons]
      by_cases hca : c.1 = a
      · rw [if_pos (by omega), if_pos (by omega)]
      · rw [if_neg hca]

/-! ### Loops over a range -/

theorem mapBytes_wf (f : Byte → Byte) (m : Memory) (dst n : Nat) (h : m.wf = true) :
    (m.mapBytes f dst n).wf = true := by
  induction n generalizing m dst with
  | zero => exact h
  | succ n ih => exact ih _ _ (write_wf m dst _ h)

theorem mapBytes_within (size : Nat) (f : Byte → Byte) (m : Memory) (dst n : Nat) (h : m.within size = true)
    (hn : dst + n ≤ size) : (m.mapBytes f dst n).within size = true := by
  induction n generalizing m dst with
  | zero => exact h
  | succ n ih => exact ih _ _ (write_within size m dst _ h (by omega)) (by omega)

theorem read_mapBytes_outside (f : Byte → Byte) (m : Memory) (dst n a : Nat) (h : a < dst ∨ dst + n ≤ a) :
    (m.mapBytes f dst n).read a = m.read a := by
  induction n generalizing m dst with
  | zero => rfl
  | succ n ih =>
    simp only [mapBytes]
    rw [ih _ _ (by omega), read_write_other m dst a _ (by omega)]

theorem zipBytes_wf (f : Byte → Byte → Byte) (m : Memory) (dst src n : Nat) (h : m.wf = true) :
    (m.zipBytes f dst src n).wf = true := by
  induction n generalizing m dst src with
  | zero => exact h
  | succ n ih => exact ih _ _ _ (write_wf m dst _ h)

theorem zipBytes_within (size : Nat) (f : Byte → Byte → Byte) (m : Memory) (dst src n : Nat)
    (h : m.within size = true) (hn : dst + n ≤ size) : (m.zipBytes f dst src n).within size = true := by
  induction n generalizing m dst src with
  | zero => exact h
  | succ n ih => exact ih _ _ _ (write_within size m dst _ h (by omega)) (by omega)

theorem read_zipBytes_outside (f : Byte → Byte → Byte) (m : Memory) (dst src n a : Nat)
    (h : a < dst ∨ dst + n ≤ a) : (m.zipBytes f dst src n).read a = m.read a := by
  induction n generalizing m dst src with
  | zero => rfl
  | succ n ih =>
    simp only [zipBytes]
    rw [ih _ _ _ (by omega), read_write_other m dst a _ (by omega)]

/-! ### Contents after a reset -/

/-- The memory built from contents is canonical and within its size. -/
theorem ofCells_ok (size : Nat) (cells : List Host.Cell) :
    (ofCells size cells).wf = true ∧ (ofCells size cells).within size = true := by
  have key : ∀ (m : Memory), m.wf = true ∧ m.within size = true →
      (cells.foldl (fun m c => if c.1 < size then m.write c.1 c.2 else m) m).wf = true ∧
      (cells.foldl (fun m c => if c.1 < size then m.write c.1 c.2 else m) m).within size = true := by
    induction cells with
    | nil => exact fun m h => h
    | cons c cs ih =>
      intro m h
      simp only [List.foldl_cons]
      refine ih _ ?_
      split
      · next hc => exact ⟨write_wf m _ _ h.1, write_within size m _ _ h.2 hc⟩
      · exact h
  exact key [] ⟨(wf_iff []).2 (by simp), (within_iff size []).2 (by simp)⟩

/-! ### 32-bit host accesses -/

theorem writeWord_wf (m : Memory) (o : Nat) (v : Word) (h : m.wf = true) : (m.writeWord o v).wf = true :=
  writeBytes_wf m o _ h

theorem writeWord_within (size : Nat) (m : Memory) (o : Nat) (v : Word) (h : m.within size = true)
    (ho : o + 4 ≤ size) : (m.writeWord o v).within size = true :=
  writeBytes_within size m o _ h ho

end Sys2Proof.Machine.Memory
end

