-- ==== Sys2Proof/Machine/HostProgram.lean ====
section
/-! DEFINITION. The statements a host program is written in and their expansions (R119, R120 of spec/30_encoding.md). -/

namespace Sys2Proof.Machine.HostProgram

/-- `w32 NAME, V` on a register. -/
def setReg (r : Reg) (v : Word) : HostStmt := .w32 (BitVec.ofNat 32 r.offset) v

/-- `cmd <command>` (R119). -/
def cmd (i : Instr) : HostStmt := setReg .cmd (encode i)

/-- `wblk`, `wdstg`, `wcstg`: one 8-bit write for each byte, from offset `o` on (R119). A sum of base
and offset past the 32-bit address space of R81 is taken modulo 2^32: DESIGN CHOICE (log 19). -/
def writeSpace (sp : Space) (o : Nat) : List Byte → List HostStmt
  | [] => []
  | b :: bs => .w8 (BitVec.ofNat 32 (sp.base + o)) b :: writeSpace sp (o + 1) bs

/-- A command and the wait for its completion. -/
def run (i : Instr) : List HostStmt := [cmd i, .wait]

/-- `gf.inv B` (R120). -/
def gfInv (b : Byte) : HostStmt := cmd (.gfDiv 0x01 b)

/-- `gf.mov A` (R120). -/
def gfMov (a : Byte) : HostStmt := cmd (.gfAdd a 0x00)

/-- `gf.sq A` (R120). -/
def gfSq (a : Byte) : HostStmt := cmd (.gfMul a a)

/-- `v.zero` (R120). -/
def vZero : HostStmt := cmd (.vScale 0x00)

/-- `v.copy` (R120), correct on disjoint ranges only. -/
def vCopy : List HostStmt := [cmd (.vScale 0x00), .wait, cmd (.vAddmul 0x01)]

/-- `v.OP.r C, D, S, N` for the vector command `i` (R120). -/
def vectorRegs (i : Instr) (d s n : Word) : List HostStmt :=
  [setReg .arg0 d, setReg .arg1 s, setReg .arg2 n] ++ run i

/-- `cfg.enc.r` and `cfg.dec.r` (R120). -/
def configureRegs (mode : Mode) (bs bpg len : Word) : List HostStmt :=
  [setReg .cfgBlockSize bs, setReg .cfgBlocksPerGen bpg, setReg .cfgDataLength len]
    ++ run (match mode with | .encoder => .cfgEncoder | .decoder => .cfgDecoder)

/-- `pkt.store G, NB, BS` (R120). -/
def storePacketRegs (g nb bs : Word) : List HostStmt :=
  [setReg .pktGen g, setReg .pktNumBlocks nb, setReg .pktBlockSize bs] ++ run .store

/-- `decode.gen.r`, `encode.r`, `flush.gen.r`, `gen.query.r` G, for the command `i` (R120). -/
def onGeneration (i : Instr) (g : Word) : List HostStmt := setReg .arg0 g :: run i

end Sys2Proof.Machine.HostProgram
end

