-- ==== Sys2Proof/Tests/Slice0.lean ====
section
/-! SUPPORT. Tests of the model, and for each statement with hypotheses a witness that meets them. Expected results are the
spec's: spec/95_test_vectors.md (ids such as V-5 or S-2) and the examples in the rules. -/

set_option Elab.async false

namespace Sys2Proof.Tests

open Sys2Proof.Machine

/-! ### Small states -/

/-- The next state of a command or step, if there is one. -/
def after (r : Result) : Option State :=
  match r with
  | .next t => some t
  | .fault _ => none
  | .refused _ => none

/-- The reset state with bytes from BLK offset 0 on, and ARG0, ARG1, ARG2. -/
def withBlk (bytes : List Byte) (arg0 arg1 arg2 : Word) : State :=
  { State.reset with blk := Memory.writeBytes [] 0 bytes, arg0 := arg0, arg1 := arg1, arg2 := arg2 }

/-- A decoder session. -/
def decoder (bs bpg len : Nat) (gens : List Gen) : Session :=
  { mode := .decoder, blockSize := bs, blocksPerGen := bpg, dataLength := len, gens := gens }

/-- The session (2, 3, 6) with one generation of the given rank and matrix. -/
def sessionA (rank : Nat) (a : Matrix) : Session := decoder 2 3 6 [{ rank := rank, decoded := false, matrix := a }]

/-- Session (2, 3, 6) with BLK bytes, and a packet for generation 0 staged. -/
def stateA (rank : Nat) (a : Matrix) (blk coeffs data : List Byte) : State :=
  { withBlk blk 0 0 0 with
    session := some (sessionA rank a)
    pktGen := 0
    pktNumBlocks := 3
    pktBlockSize := 2
    dstg := Memory.writeBytes [] 0 data
    cstg := Memory.writeBytes [] 0 coeffs }

/-- Group S-A after S-1: rank 1. -/
def rank1 : Matrix := [[1, 1, 1], [0, 0, 0], [0, 0, 0]]

/-- Group S-A after S-2: rank 2. -/
def rank2 : Matrix := [[1, 1, 1], [0, 3, 2], [0, 0, 0]]

/-- Group S-A after S-4: rank 3. -/
def rank3 : Matrix := [[1, 1, 1], [0, 3, 2], [0, 0, 1]]

/-- The original blocks of group S-A, [01 02], [03 04], [05 06]. -/
def origA (j b : Nat) : Byte := ([1, 2, 3, 4, 5, 6] : List Byte).getD (2 * j + b) 0

/-- Group S-A after S-4, with ARG0 = 0. -/
def fullA : State := stateA 3 rank3 [7, 0, 0xF, 0, 5, 6] [0, 0, 1] [5, 6]

/-- Session (1, 2, 3) with generation 0 empty and generation 1 = [[05]], block 0A (D-5). -/
def sessionD5 : Session :=
  decoder 1 2 3 [{ rank := 0, decoded := false, matrix := [[0, 0], [0, 0]] }, { rank := 1, decoded := false, matrix := [[5]] }]

def stateD5 : State := { withBlk [0, 0, 0xA] 0 0 0 with session := some sessionD5 }

/-- Session (1, 2, 3) with generation 1 decoded (FQ-8). -/
def sessionFQ8 : Session :=
  decoder 1 2 3 [{ rank := 0, decoded := false, matrix := [[0, 0], [0, 0]] }, { rank := 1, decoded := true, matrix := [[1]] }]

def stateFQ8 (ctrl : Word) : State := { withBlk [0, 0, 2] 1 0 0 with session := some sessionFQ8, ctrl := ctrl }

/-- The encoder session (2, 2, 3) over [11 22 33 00] (E-1). -/
def sessionE : Session := Session.create .encoder 2 2 3

def stateE (queued : List Byte) (dead : Bool) : State :=
  { withBlk [0x11, 0x22, 0x33, 0] 0 0 0 with
    session := some sessionE
    coeffs := { queued := queued, dead := dead, drawn := 0 } }

/-- A state whose CFG_* registers hold (bs, B, L). -/
def configured (bs bpg len : Word) : State :=
  { withBlk [0x11, 0x22, 0x33, 0xEE] 0 0 0 with cfgBlockSize := bs, cfgBlocksPerGen := bpg, cfgDataLength := len }

/-! ### Decoding: words written out from R112-R114, R116 -/

theorem test_decode_housekeeping :
    decode 0b0000_0000_0000_0000_0000_0000_0000_0000 = .ok .nop ∧
    decode 0b0000_0001_0000_0000_0000_0000_0000_0000 = .ok .clrStatus ∧
    decode 0b1000_0000_0000_0000_0000_0000_0000_0000 = .ok .genQuery := by decide

theorem test_decode_scalar :
    decode 0b0001_0000_0000_0000_0101_0011_1100_1010 = .ok (.gfAdd 0x53 0xCA) ∧
    decode 0b0001_0001_0000_0000_1001_1001_1100_1010 = .ok (.gfSub 0x99 0xCA) ∧
    decode 0b0001_0010_0000_0000_0101_0111_1000_0011 = .ok (.gfMul 0x57 0x83) ∧
    decode 0b0001_0011_0000_0000_1100_0001_1000_0011 = .ok (.gfDiv 0xC1 0x83) := by decide

theorem test_decode_vector :
    decode 0b0010_0000_0000_0000_0000_0000_1000_0011 = .ok (.vScale 0x83) ∧
    decode 0b0010_0001_0000_0000_0000_0000_0000_1111 = .ok (.vAdds 0x0F) ∧
    decode 0b0010_0010_0000_0000_0000_0000_0000_1111 = .ok (.vSubs 0x0F) ∧
    decode 0b0010_0011_0000_0000_0000_0000_1000_0011 = .ok (.vAddmul 0x83) ∧
    decode 0b0010_0100_0000_0000_0000_0000_1000_0011 = .ok (.vSubmul 0x83) := by decide

theorem test_decode_session :
    decode 0b0011_0000_0000_0000_0000_0000_0000_0000 = .ok .cfgEncoder ∧
    decode 0b0011_0001_0000_0000_0000_0000_0000_0000 = .ok .cfgDecoder ∧
    decode 0b0100_0000_0000_0000_0000_0000_0000_0000 = .ok .store ∧
    decode 0b0101_0000_0000_0000_0000_0000_0000_0000 = .ok .decodeGen ∧
    decode 0b0101_0001_0000_0000_0000_0000_0000_0000 = .ok .decodeAll ∧
    decode 0b0110_0000_0000_0000_0000_0000_0000_0000 = .ok .encode ∧
    decode 0b0111_0000_0000_0000_0000_0000_0000_0000 = .ok .flushGen ∧
    decode 0b0111_0001_0000_0000_0000_0000_0000_0000 = .ok .flushAll := by decide

/-- R118: the word column. -/
theorem test_encode_words :
    encode (.gfMul 0xAA 0xBB) = 0x1200AABB ∧ encode (.vSubmul 0xCC) = 0x240000CC ∧ encode .genQuery = 0x80000000 := by
  decide

/-- The ill-formed words: GF-16 (unassigned opcode), GF-15 (format F), V-16 (format V), S-16 (format N). -/
theorem test_illFormed_refused :
    Word.legal 0x14000000 = false ∧ Word.legal 0x10010000 = false ∧ Word.legal 0x20000100 = false ∧
    Word.legal 0x40000001 = false ∧
    decode 0x14000000 = .error (.unassignedOpcode 0x14) ∧ decode 0x10010000 = .error (.reservedBits .F) ∧
    decode 0x20000100 = .error (.reservedBits .V) ∧ decode 0x40000001 = .error (.reservedBits .N) := by decide

/-- GF-15: STATUS 0x110, RESULT unchanged; CMD reads the word back. -/
theorem test_illegal_word :
    (after (issue 0x10010000 State.reset)).map (fun t => (t.status.toWord, t.result, t.cmd))
      = some (0x110, 0, 0x10010000) := by decide

/-! ### Housekeeping and issue -/

/-- FQ-14. -/
theorem test_nop :
    (after (exec .nop { State.reset with status := { Status.reset with err := 1, errAny := true } })).map
      (fun t => t.status.toWord) = some 0x102 := by decide

/-- FQ-15. -/
theorem test_clrStatus :
    (after (exec .clrStatus { State.reset with status := { Status.reset with err := 5, errAny := true, ovr := true } })).map
      (fun t => t.status.toWord) = some 0x002 := by decide

/-- FQ-10, the session after CFG-4. -/
theorem test_genQuery :
    (after (exec .genQuery { withBlk [] 9 0 0 with session := some (Session.create .decoder 1 4 39) })).map
      (fun t => (t.qGen, t.qNumBlocks, t.qRank, t.qFlags, t.status.toWord)) = some (9, 3, 0, 0, 2) := by decide +kernel

/-- FQ-12: a decoded generation. -/
theorem test_genQuery_decoded :
    (after (exec .genQuery (stateFQ8 0))).map (fun t => (t.qGen, t.qNumBlocks, t.qRank, t.qFlags))
      = some (1, 1, 1, 3) := by decide +kernel

/-- FQ-17: STATUS 0x403 becomes 0x603, CMD unchanged. -/
theorem test_dropped_word :
    (after (issue 0 { State.reset with
      cmd := 0x70000000
      status := { Status.reset with busy := true, result := true, flushReq := true } })).map
      (fun t => (t.status.toWord, t.cmd)) = some (0x603, 0x70000000) := by decide

/-! ### Field commands -/

/-- GF-1. -/
theorem test_gfAdd : (after (exec (.gfAdd 0x53 0xCA) State.reset)).map (fun t => (t.result, t.status.toWord))
    = some (0x99, 2) := by decide

/-- R155. -/
theorem test_gfSub : (after (exec (.gfSub 0x99 0xCA) State.reset)).map (fun t => t.result) = some 0x53 := by decide

/-- GF-2. -/
theorem test_gfMul : (after (exec (.gfMul 0x57 0x83) State.reset)).map (fun t => (t.result, t.status.toWord))
    = some (0xC1, 2) := by decide +kernel

/-- GF-7: the largest index. -/
theorem test_gfMul_largest_index : (after (exec (.gfMul 0xF6 0xF6) State.reset)).map (fun t => t.result)
    = some 0x52 := by decide +kernel

/-- R157. -/
theorem test_gfDiv : (after (exec (.gfDiv 0xC1 0x83) State.reset)).map (fun t => t.result) = some 0x57 := by
  decide +kernel

/-- GF-10: division by zero is 0 and no error. -/
theorem test_gfDiv_by_zero : (after (exec (.gfDiv 0x37 0x00) State.reset)).map (fun t => (t.result, t.status.toWord))
    = some (0, 2) := by decide +kernel

/-- V-1. -/
theorem test_vScale : (after (exec (.vScale 0x83) (withBlk [0x57, 2] 0 0 2))).map (fun t => t.blk.readBytes 0 2)
    = some [0xC1, 0x1D] := by decide +kernel

/-- V-12 and V-13: the end of block memory. -/
theorem test_vScale_range :
    (after (exec (.vScale 5) (withBlk [] 0x100000 0 0))).map (fun t => t.status.toWord) = some 2 ∧
    (after (exec (.vScale 5) (withBlk [] 0x100000 0 1))).map (fun t => t.status.toWord) = some 0x140 := by
  decide +kernel

/-- V-4. -/
theorem test_vAdds : (after (exec (.vAdds 0xF) (withBlk [0, 0xF, 0xFF] 0 0 3))).map (fun t => t.blk.readBytes 0 3)
    = some [0xF, 0, 0xF0] := by decide +kernel

/-- V-15: no wrap-around. -/
theorem test_vAdds_no_wrap : (after (exec (.vAdds 1) (withBlk [] 0xFFFFFFFF 0 2))).map (fun t => t.status.toWord)
    = some 0x140 := by decide +kernel

/-- V-4b. -/
theorem test_vSubs : (after (exec (.vSubs 0xF) (withBlk [0, 0xF, 0xFF] 0 0 3))).map (fun t => t.blk.readBytes 0 3)
    = some [0xF, 0, 0xF0] := by decide +kernel

/-- V-8: dst overlaps above src. -/
theorem test_vAddmul_overlap :
    (after (exec (.vAddmul 2) (withBlk [1, 2, 3, 4] 1 0 3))).map (fun t => t.blk.readBytes 0 4)
      = some [1, 0, 3, 2] := by decide +kernel

/-- V-14: the fast path does not skip the check. -/
theorem test_vAddmul_range : (after (exec (.vAddmul 0) (withBlk [] 0 0xFFFFF 2))).map (fun t => t.status.toWord)
    = some 0x140 := by decide +kernel

/-- V-5b. -/
theorem test_vSubmul :
    (after (exec (.vSubmul 0x83) (withBlk [1, 2, 0x57, 0x13] 0 2 2))).map (fun t => t.blk.readBytes 0 4)
      = some [0xC0, 0x74, 0x57, 0x13] := by decide +kernel

/-! ### Configuration -/

/-- CFG-1. -/
theorem test_cfgEncoder :
    (after (exec .cfgEncoder (configured 2 2 3))).map
      (fun t => (t.blk.readBytes 0 4, [Reg.session, .numBlocks, .numGenerations, .lastGenBlocks, .bufferSize].map t.readReg))
      = some ([0x11, 0x22, 0x33, 0], [0x37, 2, 1, 2, 4]) := by decide +kernel

/-- CFG-4 (R217, first row). -/
theorem test_cfgDecoder :
    (after (exec .cfgDecoder (configured 1 4 39))).map
      (fun t => (t.blk, [Reg.session, .numBlocks, .numGenerations, .lastGenBlocks, .bufferSize, .gensCompleted].map t.readReg))
      = some ([], [0x09, 39, 10, 3, 39, 0]) := by decide +kernel

/-- R217, second row. -/
theorem test_partition :
    numBlocksOf 2048 43151 = 22 ∧ numGenerationsOf 2048 4 43151 = 6 ∧ genBlocksOf 2048 4 43151 5 = 2 ∧
    bufferSizeOf 2048 43151 = 45056 := by decide

/-- CFG-10, CFG-13, CFG-15, CFG-16 are refused; CFG-17 is accepted. -/
theorem test_validConfig :
    validConfig Config.reference 0 4 39 = false ∧ validConfig Config.reference 4097 1 4097 = false ∧
    validConfig Config.reference 4096 1 0x100001 = false ∧ validConfig Config.reference 1 1 4097 = false ∧
    validConfig Config.reference 1 256 0x100000 = true := by decide

/-! ### STORE, DECODE, ENCODE -/

/-- S-2. -/
theorem test_store_accepted :
    (after (exec .store (stateA 1 rank1 [7, 0] [1, 2, 3] [8, 0]))).map
      (fun t => (t.blk.readBytes 0 6, t.session, t.status.toWord))
      = some ([7, 0, 0xF, 0, 0, 0], some (sessionA 2 rank2), 2) := by decide +kernel

/-- S-3: a redundant packet; its slot keeps the packet data (C2). -/
theorem test_store_rejected :
    (after (exec .store (stateA 2 rank2 [7, 0, 0xF, 0] [0, 3, 2] [0xF, 0]))).map
      (fun t => (t.blk.readBytes 0 6, t.session, t.status.toWord))
      = some ([7, 0, 0xF, 0, 0xF, 0], some (sessionA 2 rank2), 0) := by decide +kernel

/-- D-1. -/
theorem test_decodeGen :
    (after (exec .decodeGen fullA)).map (fun t => (t.blk.readBytes 0 6, t.readReg .session, t.status.toWord))
      = some ([1, 2, 3, 4, 5, 6], 0x31, 2) := by decide +kernel

/-- D-5. -/
theorem test_decodeAll :
    (after (exec .decodeAll stateD5)).map (fun t => (t.blk.readBytes 0 3, t.session, t.status.toWord))
      = some ([0, 0, 2], some sessionFQ8, 0) := by decide +kernel

/-- E-4: the zero draws are skipped. -/
theorem test_encode :
    (after (exec .encode (stateE [0, 0, 1, 0, 1] false))).map
      (fun t => (t.dstg.readBytes 0 2, t.cstg.readBytes 0 2, [t.pktGen, t.pktNumBlocks, t.pktBlockSize], t.coeffs.queued))
      = some ([0x22, 0x22], [1, 1], [0, 2, 2], []) := by decide +kernel

/-- E-1. -/
theorem test_encode_products :
    (after (exec .encode (stateE [2, 3] false))).map (fun t => (t.dstg.readBytes 0 2, t.cstg.readBytes 0 2, t.status.toWord))
      = some ([0x77, 0x44], [2, 3], 2) := by decide +kernel

/-! ### FLUSH -/

/-- FQ-9's range. -/
theorem test_flushGen_range :
    (after (exec .flushGen { withBlk [] 5 0 0 with ctrl := 1, session := some { (Session.create .encoder 1 1 1) with
      blockSize := 2048, blocksPerGen := 4, dataLength := 43151,
      gens := List.replicate 6 { rank := 4, decoded := true, matrix := [] } } })).map
      (fun t => [t.flGen, t.flStart, t.flLength, t.flValid, t.status.toWord]) = some [5, 40960, 4096, 2191, 0x401] := by
  decide +kernel

/-- FQ-3, on L3-4's session: the answer 5. -/
theorem test_flushGen_fails :
    ((after (exec .flushGen (stateFQ8 1))).map (fun t => coreStep (acknowledge 5 t))).map
      (fun t => (t.status.toWord, t.ioCode, [t.flGen, t.flStart, t.flLength, t.flValid]))
      = some (0x150, 5, [1, 2, 1, 1]) := by decide +kernel

/-- FQ-8: generation 0 is not decoded, generation 1 is requested, and the result is 0. -/
theorem test_flushAll :
    (after (exec .flushAll (stateFQ8 1))).map (fun t => (t.flGen, (coreStep (acknowledge 0 t)).status.toWord))
      = some (1, 0) := by decide +kernel

/-! ### The host port and the step -/

/-- R85: a 32-bit write to BLK and an 8-bit read of its second byte. -/
theorem test_little_endian :
    ((after (hostWrite .word 0x80000000 0x44332211 State.reset)).bind (fun t => after (hostRead .byte 0x80000001 t))).map
      (fun t => t.reads) = some [0x22] := by decide +kernel

/-- R84: the five bus errors; the last one in a staging buffer of 5 bytes. -/
theorem test_bus_errors :
    resolve Config.reference .word 0x80100000 = .error .unmapped ∧
    resolve Config.reference .word 0x03C = .error .undefinedRegister ∧
    resolve Config.reference .word 0x021 = .error .misaligned ∧
    resolve Config.reference .byte 0x020 = .error .narrowRegister ∧
    resolve { Config.reference with maxBlockSize := 5 } .word 0x01000004 = .error .straddling := by decide +kernel

/-- A step from reset runs a placed word (R111). -/
theorem test_step_runs_placed_word :
    (after (step (State.reset.withFetchWord 32 0x12005783))).map (fun t => (t.result, t.cmd, t.status.toWord))
      = some (0xC1, 0x12005783, 2) := by decide +kernel

/-- R120: `gf.inv B` is `gf.div 0x01, B`. -/
theorem test_pseudo_gfInv : HostProgram.gfInv 0x53 = .w32 0x20 0x13000153 := by decide

/-! ### Witnesses: states and operands that meet the hypotheses of the statements, clause by clause -/

theorem witness_DecoderAcceptsExactlyLegalWords :
    Word.legal 0x12005783 = true ∧ decode 0x12005783 = .ok (.gfMul 0x57 0x83) ∧ Word.legal 0x12010000 = false := by
  decide

theorem witness_IllegalWordRaises_opcodes :
    [0x02, 0x0F, 0x14, 0x1F, 0x25, 0x2F, 0x32, 0x3F, 0x41, 0x4F, 0x52, 0x5F, 0x61, 0x6F, 0x72, 0x7F, 0x81, 0xFF].all
      (fun o : Byte => !Word.legal (o ++ (0 : BitVec 24))) = true := by decide

theorem witness_IllegalWordRaises_reserved :
    formatOfOpcode (opField 0x10010000) = some .F ∧ (0x10010000 : Word) &&& Format.F.reservedMask ≠ 0 ∧
    formatOfOpcode (opField 0x20000100) = some .V ∧ (0x20000100 : Word) &&& Format.V.reservedMask ≠ 0 ∧
    formatOfOpcode (opField 0x40000001) = some .N ∧ (0x40000001 : Word) &&& Format.N.reservedMask ≠ 0 ∧
    State.reset.status.busy = false := by decide

/-- A flush waits on generation 1 of session (1, 2, 3). -/
def waiting : State :=
  { stateFQ8 1 with
    flGen := 1
    flStart := 2
    flLength := 1
    flValid := 1
    status := { Status.reset with busy := true, flushReq := true }
    activity := .flushWait (.gen 1) }

theorem witness_CommandIssue :
    waiting.status.busy = true ∧ State.reset.status.busy = false ∧ ∃ t, exec .nop State.reset = .next t :=
  ⟨rfl, rfl, _, rfl⟩

theorem witness_StepRunsTheDecodedCommand :
    nextTurn { State.reset with host := [.w32 0x020 0x01000000] } = .host ∧
    ({ State.reset with host := [.w32 0x020 0x01000000] } : State).host = [.w32 0x020 0x01000000] ∧
    ({ State.reset with host := [.w32 0x020 0x01000000] } : State).status.busy = false ∧
    decode 0x01000000 = .ok .clrStatus := by decide

theorem witness_PlacedWordRunsNext : decode 0x80000000 = .ok .genQuery := by decide

theorem witness_SessionCommandsNeedASession :
    State.reset.session = none ∧ Instr.gfDiv 0 0 ≠ .store ∧ Instr.gfDiv 0 0 ≠ .decodeGen ∧ Instr.gfDiv 0 0 ≠ .decodeAll ∧
    Instr.gfDiv 0 0 ≠ .encode ∧ Instr.gfDiv 0 0 ≠ .flushGen ∧ Instr.gfDiv 0 0 ≠ .flushAll ∧
    Instr.gfDiv 0 0 ≠ .genQuery := by decide

theorem witness_StickyBits :
    (∃ t, exec .nop { State.reset with status := { Status.reset with errAny := true } } = .next t) ∧
    Instr.nop ≠ .clrStatus := ⟨⟨_, rfl⟩, by decide⟩

theorem witness_CommandsWriteOnlyTheirRegisters :
    (∃ t, exec .nop State.reset = .next t) ∧ Instr.nop.format ≠ .F ∧ Instr.nop.format ≠ .V ∧ Instr.nop ≠ .encode ∧
    Instr.nop ≠ .genQuery ∧ Instr.nop ≠ .flushGen ∧ Instr.nop ≠ .flushAll ∧ Instr.nop ≠ .cfgEncoder ∧
    Instr.nop ≠ .cfgDecoder ∧ Instr.nop ≠ .store ∧ Instr.nop ≠ .decodeGen ∧ Instr.nop ≠ .decodeAll :=
  ⟨⟨_, rfl⟩, by decide⟩

/-- For the statements over legal polynomials and bytes: both ends of the list and of the nonzero bytes, and 0. -/
theorem witness_legal_polynomials :
    (0x11B : BitVec 9) ∈ Config.legalPolys ∧ (0x1F9 : BitVec 9) ∈ Config.legalPolys ∧
    (0x01 : Byte) ≠ 0 ∧ (0xFF : Byte) ≠ 0 ∧ (0 : Byte) = 0 := by decide

theorem witness_DivisionGivesTheUniqueQuotient_index :
    ((255 : Nat) : Int) = (gfLog 0x11B 1 : Int) - gfLog 0x11B 1 + 255 ∧
    gfMul 0x11B 1 1 = 1 ∧ (1 : Byte) ≠ 0 := by decide +kernel

theorem witness_LegalPolynomials_degree :
    (0x11B : BitVec 9).getLsbD 8 = true ∧ (0x11D : BitVec 9).getLsbD 8 = true ∧ (0x11D : BitVec 9) ∉ Config.legalPolys := by
  decide

theorem witness_InPlaceVector :
    (withBlk [1] 0xFFFFF 0 1).blk.wf = true ∧
    (withBlk [1] 0xFFFFF 0 1).arg0.toNat + (withBlk [1] 0xFFFFF 0 1).arg2.toNat
      ≤ (withBlk [1] 0xFFFFF 0 1).params.maxBuffer ∧
    (withBlk [1] 0x100000 0 1).params.maxBuffer
      < (withBlk [1] 0x100000 0 1).arg0.toNat + (withBlk [1] 0x100000 0 1).arg2.toNat := by decide

theorem witness_FusedMultiplyAdd :
    let s := withBlk [1, 2, 0x57, 0x13] 0 2 2
    let u := withBlk [1, 2, 0x57, 0x13] 2 2 2
    (s.blk.wf = true ∧ s.params.gfPoly ∈ Config.legalPolys ∧ s.arg0.toNat + s.arg2.toNat ≤ s.params.maxBuffer ∧
      s.arg1.toNat + s.arg2.toNat ≤ s.params.maxBuffer ∧ s.arg0.toNat + s.arg2.toNat ≤ s.arg1.toNat) ∧
    (u.blk.wf = true ∧ u.arg0 = u.arg1) := by decide

theorem witness_FusedMultiplyAddChecksBothRanges :
    (withBlk [] 0xFFFFF 0 2).params.maxBuffer
      < (withBlk [] 0xFFFFF 0 2).arg0.toNat + (withBlk [] 0xFFFFF 0 2).arg2.toNat ∧
    (withBlk [] 0 0xFFFFF 2).params.maxBuffer
      < (withBlk [] 0 0xFFFFF 2).arg1.toNat + (withBlk [] 0 0xFFFFF 2).arg2.toNat := by decide

theorem witness_PartitionArithmetic :
    0 < sessionD5.blockSize ∧ 0 < sessionD5.blocksPerGen ∧ 0 < sessionD5.dataLength ∧ 0 + 1 < sessionD5.numGenerations ∧
    2 < sessionD5.numBlocks := by decide

/-- Every failing check of R213 alone, and a configuration at the limits. -/
theorem witness_ConfigurationIsValidated :
    (configured 0 4 39).cfgBlockSize.toNat = 0 ∧ (configured 1 0 39).cfgBlocksPerGen.toNat = 0 ∧
    (configured 1 4 0).cfgDataLength.toNat = 0 ∧
    Config.reference.maxBlockSize < (configured 4097 1 4097).cfgBlockSize.toNat ∧
    Config.reference.maxGenBlocks < (configured 1 257 300).cfgBlocksPerGen.toNat ∧
    Config.reference.maxBuffer < (0x100001 + 4096 - 1) / 4096 * 4096 ∧
    Config.reference.maxGenerations < ((4097 + 1 - 1) / 1 + 1 - 1) / 1 ∧
    ¬ (4096 = 0 ∨ 256 = 0 ∨ 0x100000 = 0 ∨ Config.reference.maxBlockSize < 4096 ∨ Config.reference.maxGenBlocks < 256 ∨
      Config.reference.maxBuffer < (0x100000 + 4096 - 1) / 4096 * 4096 ∨
      Config.reference.maxGenerations < ((0x100000 + 4096 - 1) / 4096 + 256 - 1) / 256) := by decide

theorem witness_CfgCreatesASession :
    validConfig (configured 2 2 3).params (configured 2 2 3).cfgBlockSize.toNat (configured 2 2 3).cfgBlocksPerGen.toNat
      (configured 2 2 3).cfgDataLength.toNat = true := by decide

/-- The three mismatches of R241: S-10, S-11, S-12. -/
theorem witness_StoreRejectsMismatchedPackets :
    let s := stateA 1 rank1 [7, 0] [0, 1, 0] [1, 1]
    s.session = some (sessionA 1 rank1) ∧ (sessionA 1 rank1).numGenerations ≤ ({ s with pktGen := 1 } : State).pktGen.toNat ∧
    ({ s with pktNumBlocks := 2 } : State).pktNumBlocks.toNat ≠ (sessionA 1 rank1).blocksOf s.pktGen.toNat ∧
    ({ s with pktBlockSize := 3 } : State).pktBlockSize.toNat ≠ (sessionA 1 rank1).blockSize := by decide

theorem witness_StoreAcceptsACompleteGenerationTrivially :
    fullA.session = some (sessionA 3 rank3) ∧ fullA.pktGen.toNat < (sessionA 3 rank3).numGenerations ∧
    fullA.pktNumBlocks.toNat = (sessionA 3 rank3).blocksOf fullA.pktGen.toNat ∧
    fullA.pktBlockSize.toNat = (sessionA 3 rank3).blockSize ∧
    ((sessionA 3 rank3).gen fullA.pktGen.toNat).rank = (sessionA 3 rank3).blocksOf fullA.pktGen.toNat := by decide

/-- S-2's and S-3's states meet the hypotheses of the statements about STORE on an incomplete generation. -/
theorem witness_StoreOnAnIncompleteGeneration :
    let s := stateA 2 rank2 [7, 0, 0xF, 0] [0, 3, 2] [0xF, 0]
    (s.session = some (sessionA 2 rank2) ∧ s.params.Legal) ∧ (s.blk.wf = true ∧ (sessionA 2 rank2).Ok s.params) ∧
    (s.pktGen.toNat < (sessionA 2 rank2).numGenerations ∧
      s.pktNumBlocks.toNat = (sessionA 2 rank2).blocksOf s.pktGen.toNat ∧
      s.pktBlockSize.toNat = (sessionA 2 rank2).blockSize ∧
      ((sessionA 2 rank2).gen s.pktGen.toNat).rank < (sessionA 2 rank2).blocksOf s.pktGen.toNat ∧
      (sessionA 2 rank2).gens.length = (sessionA 2 rank2).numGenerations) :=
  ⟨by decide +kernel, by decide +kernel, by decide +kernel⟩

theorem witness_StoreAnswers :
    ∃ t, exec .store (stateA 2 rank2 [7, 0, 0xF, 0] [0, 3, 2] [0xF, 0]) = .next t := ⟨_, rfl⟩

/-- S-3's coefficients are 0 times row 0 plus 1 times row 1. -/
theorem witness_RedundantPacketsAreRejected :
    ∀ j < (sessionA 2 rank2).blocksOf 0,
      (stateA 2 rank2 [7, 0, 0xF, 0] [0, 3, 2] [0xF, 0]).cstg.read j =
        xorSum ((sessionA 2 rank2).gen 0).rank (fun i =>
          gfMul 0x11B (([0, 1] : List Byte).getD i 0) (Matrix.entry ((sessionA 2 rank2).gen 0).matrix i j)) := by
  decide +kernel

theorem witness_FirstPacket :
    let s := stateA 0 (Sys2Proof.Machine.Matrix.zero 3) [] [0, 1, 0] [3, 4]
    (s.session = some (sessionA 0 (Sys2Proof.Machine.Matrix.zero 3)) ∧ s.params.Legal) ∧
    (s.blk.wf = true ∧ (sessionA 0 (Sys2Proof.Machine.Matrix.zero 3)).Ok s.params) ∧
    (0 = s.pktGen.toNat ∧ 0 < (sessionA 0 (Sys2Proof.Machine.Matrix.zero 3)).numGenerations ∧
      s.pktNumBlocks.toNat = (sessionA 0 (Sys2Proof.Machine.Matrix.zero 3)).blocksOf 0 ∧
      s.pktBlockSize.toNat = (sessionA 0 (Sys2Proof.Machine.Matrix.zero 3)).blockSize ∧
      ((sessionA 0 (Sys2Proof.Machine.Matrix.zero 3)).gen 0).rank = 0) :=
  ⟨by decide +kernel, by decide +kernel, by decide +kernel⟩

/-- S-2's state and packet are consistent with the original blocks of group S-A. -/
theorem witness_StoreKeepsRowsConsistent :
    let s := stateA 1 rank1 [7, 0] [1, 2, 3] [8, 0]
    (s.session = some (sessionA 1 rank1) ∧ s.params.Legal) ∧ (s.blk.wf = true ∧ (sessionA 1 rank1).Ok s.params) ∧
    s.pktGen.toNat < (sessionA 1 rank1).numGenerations ∧
    (sessionA 1 rank1).Consistent s.params.gfPoly s.blk s.pktGen.toNat origA ∧
    s.PacketConsistent ((sessionA 1 rank1).blocksOf s.pktGen.toNat) (sessionA 1 rank1).blockSize origA ∧
    ∃ t, exec .store s = .next t :=
  ⟨by decide +kernel, by decide +kernel, by decide +kernel, by decide +kernel, by decide +kernel, _, rfl⟩

/-- Out of range, decoded, and of insufficient rank. -/
theorem witness_DecodeGenWithoutWork :
    (stateFQ8 0).session = some sessionFQ8 ∧
    sessionFQ8.numGenerations ≤ ({ stateFQ8 0 with arg0 := 2 } : State).arg0.toNat ∧
    (stateFQ8 0).arg0.toNat < sessionFQ8.numGenerations ∧ (sessionFQ8.gen (stateFQ8 0).arg0.toNat).decoded = true ∧
    ({ stateFQ8 0 with arg0 := 0 } : State).arg0.toNat < sessionFQ8.numGenerations ∧
    (sessionFQ8.gen 0).decoded = false ∧ (sessionFQ8.gen 0).rank < sessionFQ8.blocksOf 0 := by decide

theorem witness_DecodeGenRecovers :
    (fullA.session = some (sessionA 3 rank3) ∧ fullA.params.Legal) ∧
    (fullA.blk.wf = true ∧ (sessionA 3 rank3).Ok fullA.params) ∧
    (0 = fullA.arg0.toNat ∧ 0 < (sessionA 3 rank3).numGenerations ∧ ((sessionA 3 rank3).gen 0).decoded = false ∧
      ((sessionA 3 rank3).gen 0).rank = (sessionA 3 rank3).blocksOf 0) ∧
    (sessionA 3 rank3).Consistent fullA.params.gfPoly fullA.blk 0 origA :=
  ⟨by decide +kernel, by decide +kernel, by decide +kernel, by decide +kernel⟩

theorem witness_DecodeGenIsIdempotent :
    (stateFQ8 0).session = some sessionFQ8 ∧ sessionFQ8.gens.length = sessionFQ8.numGenerations ∧
    ∃ t, exec .decodeGen (stateFQ8 0) = .next t ∧ t.status.result = true :=
  ⟨by decide, by decide, _, rfl, by decide +kernel⟩

theorem witness_DecodeAll :
    (stateD5.session = some sessionD5 ∧ stateD5.params.Legal) ∧ stateD5.blk.wf = true ∧ sessionD5.Ok stateD5.params ∧
    (sessionD5.gen 0).rank < sessionD5.blocksOf 0 ∧
    ((sessionD5.gen 1).rank = sessionD5.blocksOf 1 ∧ (sessionD5.gen 1).decoded = false ∧
      sessionD5.Consistent stateD5.params.gfPoly stateD5.blk 1 (fun _ _ => 2)) :=
  ⟨by decide +kernel, by decide +kernel, by decide +kernel, by decide +kernel, by decide +kernel⟩

/-- And with a generation that is decoded already. -/
theorem witness_DecodeAll_decoded :
    ((stateFQ8 0).session = some sessionFQ8 ∧ (stateFQ8 0).params.Legal) ∧ (stateFQ8 0).blk.wf = true ∧
    sessionFQ8.Ok (stateFQ8 0).params ∧ 1 < sessionFQ8.numGenerations ∧ (sessionFQ8.gen 1).decoded = true :=
  ⟨by decide +kernel, by decide +kernel, by decide +kernel, by decide +kernel, by decide +kernel⟩

theorem witness_EncodeWithNothing :
    (stateFQ8 0).session = some sessionFQ8 ∧
    sessionFQ8.numGenerations ≤ ({ stateFQ8 0 with arg0 := 2 } : State).arg0.toNat ∧
    ({ stateFQ8 0 with arg0 := 0 } : State).arg0.toNat < sessionFQ8.numGenerations ∧ (sessionFQ8.gen 0).rank = 0 := by
  decide

theorem witness_EncodeWritesTheLinearCombination :
    let s := stateE [2, 3] false
    s.session = some sessionE ∧ s.dstg.wf = true ∧ s.cstg.wf = true ∧ 0 = s.arg0.toNat ∧ 0 < sessionE.numGenerations ∧
    2 = (sessionE.gen 0).rank ∧ 2 ≤ sessionE.blocksOf 0 ∧ Matrix.Square (sessionE.blocksOf 0) (sessionE.gen 0).matrix ∧
    drawCoeffs 2 s.coeffs = some ([2, 3], { queued := [], dead := false, drawn := 0 }) := by decide +kernel

theorem witness_Draws :
    drawCoeffs 1 { queued := [0, 9], dead := true, drawn := 0 } = some ([9], { queued := [], dead := true, drawn := 0 }) ∧
    (9 : Byte) ≠ 0 ∧ ([0, 9] : List Byte) = List.replicate 1 0 ++ 9 :: [] ∧
    ({ queued := [], dead := false, drawn := 0 } : CoeffSource).dead = false := by decide

/-- An ENCODE that hangs: one nonzero byte for two rows. -/
theorem witness_EncodeHangs :
    let s := stateE [0, 5] true
    s.session = some sessionE ∧ 0 = s.arg0.toNat ∧ 0 < sessionE.numGenerations ∧ 0 < (sessionE.gen 0).rank ∧
    s.coeffs.dead = true ∧ s.coeffs.queued.countP (fun b => b != 0) < (sessionE.gen 0).rank := by decide +kernel

theorem witness_EncodeHangs_later :
    let s := { State.reset with status := { Status.reset with busy := true }, activity := .drawWait }
    s.activity = .drawWait ∧ s.status.busy = true ∧ s.status.flushReq = false ∧ (∃ t, step s = .next t) ∧
    ∀ c, nextTurn s ≠ .reset c :=
  ⟨rfl, rfl, rfl, ⟨_, rfl⟩, fun _ h => by cases h⟩

/-- The original blocks of the encoder session are the blocks themselves. -/
theorem witness_EncodedPackets :
    let s := stateE [2, 3] false
    (s.session = some sessionE ∧ s.params.Legal) ∧ s.MemoriesOk ∧ sessionE.Ok s.params ∧
    (0 = s.arg0.toNat ∧ 0 < sessionE.numGenerations ∧ 0 < (sessionE.gen 0).rank ∧ s.coeffs.dead = false) ∧
    sessionE.Consistent s.params.gfPoly s.blk 0 (fun j b => s.blk.read (2 * j + b)) ∧
    (drawCoeffs (sessionE.gen 0).rank s.coeffs = some ([2, 3], { queued := [], dead := false, drawn := 0 }) ∧
      (sessionE.gen 0).decoded = true) ∧ ∃ t, exec .encode s = .next t :=
  ⟨by decide +kernel, by decide +kernel, by decide +kernel, by decide +kernel, by decide +kernel, by decide +kernel, _, rfl⟩

theorem witness_FlushGen :
    (stateFQ8 1).session = some sessionFQ8 ∧ 1 = (stateFQ8 1).arg0.toNat ∧
    1 < sessionFQ8.numGenerations ∧ (sessionFQ8.gen 1).decoded = true ∧ (sessionFQ8.gen 0).decoded = false ∧
    (stateFQ8 1).ctrl.getLsbD 0 = true ∧ (stateFQ8 0).ctrl.getLsbD 0 = false ∧
    sessionFQ8.numGenerations ≤ ({ stateFQ8 1 with arg0 := 2 } : State).arg0.toNat := by decide

/-- The last generation of a session with a partial last block, and a generation before it. -/
theorem witness_FlushRange :
    Config.reference.Legal ∧ validConfig Config.reference 2048 4 43151 = true ∧
    5 < numGenerationsOf 2048 4 43151 ∧ 4 < numGenerationsOf 2048 4 43151 := by decide +kernel

theorem witness_Acknowledgement :
    State.reset.status.flushReq = false ∧ (waiting.status.flushReq = true ∧ waiting.activity = .flushWait (.gen 1)) ∧
    (({ waiting with activity := .flushAcked (.gen 1) 5 } : State).activity = .flushAcked (.gen 1) 5 ∧ (5 : Word) ≠ 0) ∧
    ({ waiting with activity := .flushAcked (.gen 1) 0 } : State).activity = .flushAcked (.gen 1) 0 := by decide

/-- Session (1, 1, 3) with generations 0 and 2 decoded. -/
def sessionGap : Session :=
  decoder 1 1 3 [{ rank := 1, decoded := true, matrix := [[1]] }, { rank := 0, decoded := false, matrix := [[0]] },
    { rank := 1, decoded := true, matrix := [[1]] }]

theorem witness_FlushAll :
    ((stateFQ8 0).session = some sessionFQ8 ∧ (stateFQ8 0).ctrl.getLsbD 0 = false) ∧
    ((stateFQ8 1).ctrl.getLsbD 0 = true ∧ 1 < sessionFQ8.numGenerations ∧ (sessionFQ8.gen 1).decoded = true ∧
      ∀ h < 1, (sessionFQ8.gen h).decoded = false) ∧
    (∀ h < sessionD5.numGenerations, (sessionD5.gen h).decoded = false) ∧
    (0 < 2 ∧ 2 < sessionGap.numGenerations ∧ (sessionGap.gen 2).decoded = true ∧
      ∀ h < 2, 0 < h → (sessionGap.gen h).decoded = false) ∧
    (1 < sessionFQ8.numGenerations ∧ ∀ h < sessionFQ8.numGenerations, 1 < h → (sessionFQ8.gen h).decoded = false) := by
  decide

theorem witness_FlushWaitFreezes :
    (waiting.activity = .flushWait (.gen 1) ∧ waiting.status.busy = true ∧ waiting.status.flushReq = true) ∧
    nextTurn { waiting with provider := [5] } = .provider ∧
    nextTurn { waiting with host := [.w32 0x0B0 5] } = .host :=
  ⟨⟨rfl, rfl, rfl⟩, rfl, rfl⟩

/-- The host writes a command word during the wait. -/
def unanswered : State := { waiting with host := [.w32 0x020 0], provider := [5] }

/-- A step that answers nothing: the command word is dropped. -/
theorem witness_FlushWaitFreezes_unanswered :
    (unanswered.activity = .flushWait (.gen 1) ∧ unanswered.status.busy = true ∧ unanswered.status.flushReq = true) ∧
    (after (step unanswered)).isSome = true ∧ (∀ c, nextTurn unanswered ≠ .reset c) ∧
    ¬ (nextTurn unanswered = .provider ∧ unanswered.provider ≠ []) ∧
    ¬ (nextTurn unanswered = .host ∧ ∃ v rest, unanswered.host = .w32 0x0B0 v :: rest) := by
  have h : nextTurn unanswered = .host := rfl
  refine ⟨⟨rfl, rfl, rfl⟩, by decide +kernel, by simp [h], by simp [h], ?_⟩
  rintro ⟨-, v, rest, hh⟩
  simp [unanswered] at hh

theorem witness_GenQuery :
    (stateFQ8 0).session = some sessionFQ8 ∧ 1 = (stateFQ8 0).arg0.toNat ∧ 1 < sessionFQ8.numGenerations ∧
    sessionFQ8.numGenerations ≤ ({ stateFQ8 0 with arg0 := 2 } : State).arg0.toNat := by decide

/-- Both ends of each range of R81, and one access past each. -/
theorem witness_BusErrors :
    Config.reference.Legal ∧
    (resolve Config.reference .byte 0x00010000).toOption = some (.mem .cstg 0) ∧
    (resolve Config.reference .byte 0x000100FF).toOption = some (.mem .cstg 255) ∧
    (resolve Config.reference .byte 0x00010100).toOption = none ∧
    (resolve Config.reference .word 0x01000FFC).toOption = some (.mem .dstg 4092) ∧
    (resolve Config.reference .word 0x01001000).toOption = none ∧
    (resolve Config.reference .byte 0x800FFFFF).toOption = some (.mem .blk 0xFFFFF) ∧
    (resolve Config.reference .byte 0x80100000).toOption = none ∧
    (resolve Config.reference .word 0x0B0).toOption = some (.reg .flushAck) ∧
    (resolve Config.reference .word 0x0B4).toOption = none := by decide +kernel

theorem witness_PlainHostAccesses :
    resolve State.reset.params .word 0x0000 = .ok (.reg .id) ∧ State.reset.status.busy = false ∧
    resolve State.reset.params .byte 0x800FFFFF = .ok (.mem .blk 0xFFFFF) ∧ Reg.id.access = .RO := by decide +kernel

theorem witness_ReadWriteRegisters :
    State.reset.status.busy = false ∧ Reg.ctrl.access = .RW ∧ Reg.ctrl ≠ .cmd ∧ Reg.pktBlockSize.access = .RW := by decide

/-- No session, and the session (1, 2, 3). -/
theorem witness_RegisterReadings :
    State.reset.params.Legal ∧ State.reset.session = none ∧
    (stateD5.session = some sessionD5 ∧ stateD5.params.Legal ∧
      validConfig stateD5.params sessionD5.blockSize sessionD5.blocksPerGen sessionD5.dataLength = true ∧
      3 = (sessionD5.dataLength + sessionD5.blockSize - 1) / sessionD5.blockSize ∧
      2 = (3 + sessionD5.blocksPerGen - 1) / sessionD5.blocksPerGen) := by decide +kernel

theorem witness_WordAccesses :
    (Memory.writeBytes [] 0 [1, 2, 3, 4, 5]).wf = true ∧ State.reset.status.busy = false ∧
    (State.reset.space .blk).wf = true ∧
    resolve State.reset.params .word 0x800FFFFC = .ok (.mem .blk 0xFFFFC) := by decide +kernel

/-- R119: `wait` reads STATUS until BUSY reads 0 and records what it reads; after a NOP STATUS is 0x2 (R321). -/
theorem test_wait_records_the_poll :
    (after (hostStatement .wait { State.reset with status := { Status.reset with result := true } })).map
      (fun t => (t.reads, t.host)) = some ([0x2], []) := by decide +kernel

/-- While BUSY reads 1 the poll is recorded and the statement stays: STATUS is 0x401 in a flush wait (R33, R314). -/
theorem test_wait_repeats_while_busy :
    (after (hostStatement .wait waiting)).map (fun t => (t.reads, t.host)) = some ([0x401], [.wait]) := by
  decide +kernel

theorem witness_OtherWritesWhileBusy :
    waiting.status.busy = true ∧ resolve waiting.params .word 0x020 = .ok (.reg .cmd) ∧
    resolve waiting.params .word 0x0B0 = .ok (.reg .flushAck) ∧ resolve waiting.params .word 0x01C = .ok (.reg .ctrl) ∧
    resolve waiting.params .byte 0x80000000 = .ok (.mem .blk 0) := by decide +kernel

theorem witness_ResetLeaves : ∃ t, act (.reset { blk := [(0, 1)], dstg := [], cstg := [] }) waiting = .next t := ⟨_, rfl⟩

/-- The invariant in a flush wait of a decoder session with a partial generation and one decoded. -/
theorem witness_StepKeepsTheInvariant : waiting.Inv ∧ ∃ t, step waiting = .next t :=
  ⟨⟨by decide +kernel, by decide +kernel, by decide +kernel, by decide +kernel, by decide +kernel⟩, _, rfl⟩

theorem witness_RanksAndDecodedFlags :
    stateD5.session = some sessionD5 ∧ sessionD5.gens.length = sessionD5.numGenerations ∧
    Instr.decodeAll ≠ .cfgEncoder ∧ Instr.decodeAll ≠ .cfgDecoder ∧ ∃ t, exec .decodeAll stateD5 = .next t :=
  ⟨by decide, by decide, by decide, by decide, _, rfl⟩

end Sys2Proof.Tests
end

section
/-! SUPPORT. Proofs of the statements on spec/00_scope.md: commands complete in STATUS (R17, R340), a command runs in the
step in which the host writes it to CMD (R4, R111), and the legal GF_POLY are those under which 3 generates (R8). -/

namespace Sys2Proof.Machine

/-! ### Completion of commands -/

/-- Settles O8: `finish` and `raise` are updates of STATUS, and the codes are the table of R340. -/
theorem completionWritesStatusOnly : Obligations.CompletionWritesStatusOnly :=
  ⟨fun _ _ => rfl, fun _ _ => rfl, rfl, rfl, rfl, rfl, rfl⟩

/-! ### The step in which the host writes a command word -/

/-- A host whose next statement writes a word to CMD issues it (R88, R119). -/
theorem hostMove_w32_cmd (s : State) (w : Word) (rest : List HostStmt) (h : s.host = .w32 0x020 w :: rest) :
    hostMove s = issue w { s with host := rest } := by
  rw [hostMove, h]
  exact hostWrite_cmd w { s with host := rest }

/-- Settles O6: the host's move issues the word, and the accepted word executes as it decodes. -/
theorem stepRunsTheDecodedCommand : Obligations.StepRunsTheDecodedCommand := by
  intro s w i rest hturn hhost hbusy hdecode
  let t : State := { popTurn s with host := rest }
  calc step s
      = hostMove (popTurn s) := step_host s hturn
    _ = issue w t := hostMove_w32_cmd (popTurn s) w rest hhost
    _ = execute w (t.accept w) := issue_idle w t hbusy
    _ = exec i (t.accept w) := execute_ok w i _ hdecode

/-- A 32-bit word is placed as it stands. -/
theorem withFetchWord_toNat (s : State) (w : Word) : s.withFetchWord 32 w.toNat = placeCommand w s := by
  rw [State.withFetchWord, Nat.mod_eq_of_lt w.isLt, BitVec.ofNat_toNat, BitVec.setWidth_eq]

/-- From the number of a 32-bit word `decodeTableWord` reads what the decoder reads from the word (R110). -/
theorem decodeTableWord_toNat (w : Word) : decodeTableWord 32 w.toNat = (decode w).toOption := by
  rw [decodeTableWord, Nat.mod_eq_of_lt w.isLt, if_pos w.isLt, BitVec.ofNat_toNat, BitVec.setWidth_eq]

/-- Settles O7: the placed word is the host's next CMD write, on the host's turn and with BUSY = 0, so O6 applies. -/
theorem placedWordRunsNext : Obligations.PlacedWordRunsNext := by
  intro s w i hdecode
  constructor
  · rw [decodeTableWord_toNat, hdecode]
    rfl
  · rw [withFetchWord_toNat]
    exact stepRunsTheDecodedCommand (placeCommand w s) w i s.host rfl rfl rfl hdecode

/-! ### Powers of 3 as polynomials -/

/-- As polynomials, the product of x + 1 and y is xy ⊕ y. -/
theorem polyProduct_three : ∀ y : Byte, polyProduct 3 y = y.setWidth 16 ^^^ y.setWidth 16 <<< 1 := by
  decide +kernel

/-- A polynomial of degree at most 8 is reduced by subtracting GF_POLY at most once. -/
theorem polyReduce_of_degree_le_eight (p : BitVec 9) (v : BitVec 16) (hv : ∀ i, 8 < i → v.getLsbD i = false) :
    polyReduce p v = v.setWidth 8 ^^^ if v.getLsbD 8 then p.setWidth 8 else 0 := by
  have hskip : ∀ n ≤ 6, (List.range n).foldl
      (fun v k => if v.getLsbD (14 - k) then v ^^^ (p.setWidth 16 <<< (6 - k)) else v) v = v := by
    intro n hn
    induction n with
    | zero => rfl
    | succ n ih =>
      rw [List.range_succ, List.foldl_append, ih (by omega)]
      simp [hv (14 - n) (by omega)]
  rw [polyReduce, List.range_succ, List.foldl_append, hskip 6 (by omega)]
  by_cases h : v[8] <;> simp [h]

/-- The product by 3 of polynomials is the field unit's multiplication by the generator (R7, R152). -/
theorem polyMul_three (p : BitVec 9) (y : Byte) : polyMul p 3 y = mulGen p y := by
  have hdeg : ∀ i, 8 < i → (y.setWidth 16 ^^^ y.setWidth 16 <<< 1).getLsbD i = false := by
    intro i hi
    simp [BitVec.getLsbD_of_ge y i (by omega), BitVec.getLsbD_of_ge y (i - 1) (by omega)]
  have hlow : (y.setWidth 16 ^^^ y.setWidth 16 <<< 1).setWidth 8 = y ^^^ y <<< 1 := by
    simp [BitVec.setWidth_xor]
  have htop : (y.setWidth 16 ^^^ y.setWidth 16 <<< 1).getLsbD 8 = y.getLsbD 7 := by
    simp
  rw [polyMul, polyProduct_three, polyReduce_of_degree_le_eight p _ hdeg, hlow, htop, mulGen, xtime]
  cases y.getLsbD 7
  · simp [BitVec.xor_comm]
  · simp only [↓reduceIte]
    ac_rfl

/-- The powers of 3 as polynomials are those the tables are made of (R150, R151). -/
theorem polyPow_eq_genPow (p : BitVec 9) (e : Nat) : polyPow p e = genPow p e := by
  induction e with
  | zero => rfl
  | succ e ih => rw [polyPow, ih, polyMul_three, genPow_succ]

/-! ### The polynomials under which 3 generates -/

/-- `avoidsOne` finds no 1 where there is none: the converse of `avoidsOne_spec`. -/
theorem avoidsOne_of_ne_one (p : BitVec 9) (k e : Nat) (h : ∀ j < k, genPow p (e + j) ≠ 1) :
    avoidsOne p k (genPow p e) = true := by
  induction k generalizing e with
  | zero => rfl
  | succ k ih =>
    have hrest : avoidsOne p k (genPow p (e + 1)) = true :=
      ih (e + 1) fun j hj => by
        rw [Nat.add_right_comm]
        exact h (j + 1) (by omega)
    rw [avoidsOne, ← genPow_succ, hrest, Bool.and_true, bne_iff_ne]
    exact h 0 (by omega)

/-- Where the powers below 255 run through the 255 nonzero bytes, they differ pairwise. -/
theorem genPow_injOn_of_surjective (p : BitVec 9) (h : ∀ x : Byte, x ≠ 0 → ∃ e < 255, genPow p e = x) :
    Set.InjOn (fun e => (genPow p e).toFin) (Finset.range 255) := by
  have hsub : Finset.univ.erase 0 ⊆ (Finset.range 255).image fun e => (genPow p e).toFin := by
    intro x hx
    obtain ⟨e, he, hex⟩ := h (BitVec.ofFin x) fun h0 => Finset.ne_of_mem_erase hx (congrArg BitVec.toFin h0)
    exact Finset.mem_image.2 ⟨e, Finset.mem_range.2 he, by rw [hex]⟩
  refine Finset.injOn_of_card_image_eq (Nat.le_antisymm Finset.card_image_le ?_)
  simpa using Finset.card_le_card hsub

/-- The quotient of GF_POLY by x + 1, exact where GF_POLY has an even number of terms. -/
def quotientByThree (p : BitVec 9) : Byte :=
  (List.range 8).foldl (fun q k => q ^^^ p.setWidth 8 <<< k) 0

/-- A polynomial of degree 8 is a multiple of x + 1, so that 3 takes a nonzero quotient to 0, or is legal, or 3 has an
order below 255. -/
theorem quotient_or_legal_or_low_order : ∀ p : BitVec 9, p.getLsbD 8 = true →
    (quotientByThree p ≠ 0 ∧ mulGen p (quotientByThree p) = 0) ∨ p ∈ Config.legalPolys ∨
      avoidsOne p 254 (genPow p 1) = false := by
  decide +kernel

/-- A GF_POLY under which the powers of 3 are the nonzero bytes is one of the list of R8. -/
theorem mem_legalPolys_of_three_generates (p : BitVec 9) (hdeg : p.getLsbD 8 = true) (hne : ∀ e, genPow p e ≠ 0)
    (hsurj : ∀ x : Byte, x ≠ 0 → ∃ e < 255, genPow p e = x) : p ∈ Config.legalPolys := by
  rcases quotient_or_legal_or_low_order p hdeg with ⟨hq, hzero⟩ | hlegal | hlow
  · obtain ⟨e, -, he⟩ := hsurj _ hq
    rw [← he] at hzero
    exact absurd hzero (hne (e + 1))
  · exact hlegal
  · have hhigh : avoidsOne p 254 (genPow p 1) = true := avoidsOne_of_ne_one p 254 1 fun j hj hone => by
      have hexp : 1 + j = 0 := genPow_injOn_of_surjective p hsurj (Finset.mem_coe.2 (Finset.mem_range.2 (by omega)))
        (Finset.mem_coe.2 (Finset.mem_range.2 (by omega))) (congrArg BitVec.toFin hone)
      omega
    exact absurd hhigh (by simp [hlow])

/-- Settles O18: under a legal polynomial the laws of the tables give both clauses; under any other one of degree 8 a
power of 3 would be 0 or would come back to 1 before 255. -/
theorem legalPolynomialsAreThoseThreeGenerates : Obligations.LegalPolynomialsAreThoseThreeGenerates := by
  intro p hdeg
  simp only [polyPow_eq_genPow]
  constructor
  · exact fun hp => ⟨genPow_ne_zero p hp, genPow_surjective p hp⟩
  · exact fun ⟨hne, hsurj⟩ => mem_legalPolys_of_three_generates p hdeg hne hsurj

end Sys2Proof.Machine
end

section
/-! SUPPORT. What a command can do to the state, said once: the forms of the next state that `exec` answers, each with
what later proofs need to know of it. Every frame and every invariant of a command is read off these forms. -/

namespace Sys2Proof.Machine

/-- A memory in canonical form and within its size. -/
abbrev Memory.Fits (size : Nat) (m : Memory) : Prop := m.wf = true ∧ m.within size = true

/-- The next states a command can answer from `s`, by the updates that lead to them. -/
inductive CommandEffect (s : State) : Instr → State → Prop
  | raised (i : Instr) (e : Err) : CommandEffect s i (s.raise e)
  | finished (i : Instr) (b : Bool) : CommandEffect s i (s.finish b)
  | cleared : CommandEffect s .clrStatus (s.clearSticky.finish true)
  | scalar (i : Instr) (r : Byte) (format : i.format = .F) : CommandEffect s i ((s.setResult r).finish true)
  | vector (i : Instr) (m : Memory) (format : i.format = .V)
      (fits : s.blk.Fits s.params.maxBuffer → m.Fits s.params.maxBuffer) :
      CommandEffect s i ((s.setBlk m).finish true)
  | configured (i : Instr) (mode : Mode) (command : i = .cfgEncoder ∨ i = .cfgDecoder)
      (valid : validConfig s.params s.cfgBlockSize.toNat s.cfgBlocksPerGen.toNat s.cfgDataLength.toNat = true)
      (lo hi : Nat) :
      CommandEffect s i ((s.setSession
        (Session.create mode s.cfgBlockSize.toNat s.cfgBlocksPerGen.toNat s.cfgDataLength.toNat)
        (s.blk.zeroFill lo hi)).finish true)
  | stored (ses ses' : Session) (m : Memory) (b : Bool) (active : s.session = some ses)
      (inRange : s.pktGen.toNat < ses.numGenerations)
      (incomplete : (ses.gen s.pktGen.toNat).rank ≠ ses.blocksOf s.pktGen.toNat)
      (outcome : storePacket ses s.pktGen.toNat s = (s.setSession ses' m).finish b)
      (session : ses' = ses ∨ ∃ a, ses' = ses.commit s.pktGen.toNat (ses.gen s.pktGen.toNat).rank a ∧ b = true) :
      CommandEffect s .store ((s.setSession ses' m).finish b)
  | decoded (i : Instr) (ses : Session) (gs : List Nat) (command : i = .decodeGen ∨ i = .decodeAll)
      (active : s.session = some ses) :
      CommandEffect s i (s.finishDecoding
        (gs.foldl (decodeNext s.params.gfPoly) { ok := true, session := ses, blk := s.blk }))
  | headed (g n bs : Nat) : CommandEffect s .encode ((s.setHeader g n bs).finish false)
  | hung (g n bs : Nat) (c : CoeffSource) : CommandEffect s .encode ((s.setHeader g n bs).setCoeffs c).hang
  | encoded (ses : Session) (g n bs : Nat) (c : CoeffSource) (data coeffs : List Byte)
      (active : s.session = some ses) (inRange : g < ses.numGenerations) (dataFits : data.length ≤ ses.blockSize)
      (coeffsFit : coeffs.length ≤ ses.blocksOf g) :
      CommandEffect s .encode ((((s.setHeader g n bs).setCoeffs c).setStaging data coeffs).finish true)
  | requested (i : Instr) (ses : Session) (f : FlushCmd) (command : i = .flushGen ∨ i = .flushAll)
      (active : s.session = some ses) (inRange : f.target < ses.numGenerations)
      (isDecoded : (ses.gen f.target).decoded = true) :
      CommandEffect s i (s.requestFlush ses f f.target)
  | queried (ses : Session) (g : Nat) : CommandEffect s .genQuery ((s.setQuery ses g).finish true)

/-! ### The forms, command by command -/

/-- A session command raises NOT_CONFIGURED or has its own rule's form. -/
theorem withSession_effect (s : State) (i : Instr) (k : Session → State)
    (h : ∀ ses, s.session = some ses → CommandEffect s i (k ses)) : CommandEffect s i (s.withSession k) := by
  obtain ⟨-, hr⟩ | ⟨ses, hs, hk⟩ := s.withSession_cases k _ rfl
  · exact hr ▸ .raised i .notConfigured
  · exact hk ▸ h ses hs

theorem vectorInPlace_effect (f : Byte → Byte) (s : State) (i : Instr) (format : i.format = .V) :
    ∃ t, vectorInPlace f s = .next t ∧ CommandEffect s i t := by
  refine ⟨_, rfl, ?_⟩
  split
  · next h =>
    refine .vector i _ format fun hm => ⟨s.blk.mapBytes_wf f _ _ hm.1, ?_⟩
    exact Memory.mapBytes_within _ f _ _ _ hm.2 (of_decide_eq_true h)
  · exact .raised i .range

theorem vectorAddmul_effect (c : Byte) (s : State) (i : Instr) (format : i.format = .V) :
    ∃ t, vectorAddmul c s = .next t ∧ CommandEffect s i t := by
  refine ⟨_, rfl, ?_⟩
  split
  · exact .raised i .range
  · next hdst =>
    split
    · exact .raised i .range
    · split
      · exact .finished i true
      · refine .vector i _ format fun hm => ⟨s.blk.zipBytes_wf _ _ _ _ hm.1, ?_⟩
        exact Memory.zipBytes_within _ _ _ _ _ _ hm.2 (by simpa [State.dstInRange] using hdst)

theorem configure_effect (mode : Mode) (s : State) (i : Instr) (command : i = .cfgEncoder ∨ i = .cfgDecoder) :
    ∃ t, configure mode s = .next t ∧ CommandEffect s i t := by
  refine ⟨_, rfl, ?_⟩
  split
  · next h => exact .configured i mode command h _ _
  · exact .raised i .badConfig

/-- A write of BLK is a change of the session and of BLK that keeps the session. -/
theorem setBlk_eq_setSession (s : State) (ses : Session) (m : Memory) (hs : s.session = some ses) :
    s.setBlk m = s.setSession ses m := by
  simp only [State.setBlk, State.setSession, ← hs]

theorem setSession_self (s : State) (ses : Session) (hs : s.session = some ses) : s.setSession ses s.blk = s := by
  simp only [State.setSession, ← hs]

/-- STORE of a packet rejects it and keeps the session, or commits it to the packet's generation (R246, R248). -/
theorem storePacket_eq_setSession (ses : Session) (g : Nat) (s : State) (hs : s.session = some ses) :
    ∃ ses' m b, storePacket ses g s = (s.setSession ses' m).finish b ∧
      (ses' = ses ∨ ∃ a, ses' = ses.commit g (ses.gen g).rank a ∧ b = true) := by
  dsimp only [storePacket]
  split
  · exact ⟨_, _, _, rfl, .inr ⟨_, rfl, rfl⟩⟩
  · exact ⟨ses, _, false, congrArg (State.finish false) (setBlk_eq_setSession s ses _ hs), .inl rfl⟩

/-- STORE in a session completes at once, or takes the packet for an incomplete generation of the session (R240). -/
theorem exec_store_cases (s : State) (ses : Session) (hs : s.session = some ses) :
    (∃ b, exec .store s = .next (s.finish b)) ∨
    (s.pktGen.toNat < ses.numGenerations ∧
      (ses.gen s.pktGen.toNat).rank ≠ ses.blocksOf s.pktGen.toNat ∧
      exec .store s = .next (storePacket ses s.pktGen.toNat s)) := by
  simp only [exec, execStore, s.withSession_some _ ses hs]
  by_cases hv : ses.validPacket s.pktGen.toNat s.pktNumBlocks.toNat s.pktBlockSize.toNat = true
  · simp only [hv, Bool.not_true, Bool.false_eq_true, ↓reduceIte]
    by_cases hr : (ses.gen s.pktGen.toNat).rank = ses.blocksOf s.pktGen.toNat
    · exact .inl ⟨true, by rw [if_pos hr]⟩
    · have hg : s.pktGen.toNat < ses.numGenerations := by
        simp only [Session.validPacket, Bool.and_eq_true, decide_eq_true_eq] at hv
        exact hv.1.1
      exact .inr ⟨hg, hr, by rw [if_neg hr]⟩
  · exact .inl ⟨false, by rw [if_pos (by simpa using hv)]⟩

theorem exec_store_effect (s : State) : ∃ t, exec .store s = .next t ∧ CommandEffect s .store t := by
  cases hs : s.session with
  | none => exact ⟨_, congrArg Host.Outcome.next (s.withSession_none _ hs), .raised _ .notConfigured⟩
  | some ses =>
    obtain ⟨b, h⟩ | ⟨hg, hr, h⟩ := exec_store_cases s ses hs
    · exact ⟨_, h, .finished _ b⟩
    · obtain ⟨ses', m, b, hout, hses⟩ := storePacket_eq_setSession ses s.pktGen.toNat s hs
      exact ⟨_, h, hout ▸ .stored ses ses' m b hs hg hr hout hses⟩

theorem execDecodeGen_effect (s : State) : ∃ t, execDecodeGen s = .next t ∧ CommandEffect s .decodeGen t :=
  ⟨_, rfl, withSession_effect s _ _ fun ses hs => .decoded _ ses [s.genIndex] (.inl rfl) hs⟩

theorem execDecodeAll_effect (s : State) : ∃ t, execDecodeAll s = .next t ∧ CommandEffect s .decodeAll t :=
  ⟨_, rfl, withSession_effect s _ _ fun ses hs => .decoded _ ses (List.range ses.numGenerations) (.inr rfl) hs⟩

theorem length_combineRows_le (p : BitVec 9) (row : Nat → List Byte) (cs : List Byte) (i : Nat) (acc : List Byte) :
    (combineRows p row cs i acc).length ≤ acc.length := by
  induction cs generalizing i acc with
  | nil => exact Nat.le_refl _
  | cons c cs ih =>
    refine Nat.le_trans (ih (i + 1) _) ?_
    rw [rowAddmul, List.length_zipWith]
    exact Nat.min_le_left _ _

theorem execEncode_effect (s : State) : ∃ t, execEncode s = .next t ∧ CommandEffect s .encode t := by
  refine ⟨_, rfl, withSession_effect s .encode _ fun ses hs => ?_⟩
  dsimp only
  split
  · exact .finished _ false
  · next hg =>
    split
    · exact .headed _ _ _
    · rw [linComb]
      split
      · exact .hung _ _ _ _
      · refine .encoded ses _ _ _ _ _ _ hs (Nat.lt_of_not_le hg) ?_ ?_
        · exact (length_combineRows_le _ _ _ _ _).trans_eq List.length_replicate
        · exact (length_combineRows_le _ _ _ _ _).trans_eq List.length_replicate

theorem execFlushGen_effect (s : State) : ∃ t, execFlushGen s = .next t ∧ CommandEffect s .flushGen t := by
  refine ⟨_, rfl, withSession_effect s .flushGen _ fun ses hs => ?_⟩
  split
  · exact .finished _ _
  · next hv =>
    obtain ⟨hg, hd, -⟩ := flushVerdict_none _ _ _ hv
    exact .requested _ ses (.gen s.genIndex) (.inl rfl) hs hg hd

/-- FLUSH_ALL's loop finishes or requests, wherever it is entered. -/
theorem flushFrom_effect (s : State) (ses : Session) (k g : Nat) (ok : Bool) (hs : s.session = some ses) :
    CommandEffect s .flushAll (flushFrom ses k g ok s) := by
  obtain ⟨b, h⟩ | ⟨g', b, -, -, hv, h⟩ := flushFrom_cases ses k g ok s
  · exact h ▸ .finished _ b
  · obtain ⟨hg, hd, -⟩ := flushVerdict_none _ _ _ hv
    exact h ▸ .requested _ ses (.all g' b) (.inr rfl) hs hg hd

theorem execFlushAll_effect (s : State) : ∃ t, execFlushAll s = .next t ∧ CommandEffect s .flushAll t :=
  ⟨_, rfl, withSession_effect s _ _ fun ses hs => flushFrom_effect s ses _ _ _ hs⟩

theorem execGenQuery_effect (s : State) : ∃ t, execGenQuery s = .next t ∧ CommandEffect s .genQuery t := by
  refine ⟨_, rfl, withSession_effect s .genQuery _ fun ses _ => ?_⟩
  split
  · exact .finished _ false
  · exact .queried ses _

/-- Whatever a command answers has one of the forms. -/
theorem exec_effect (i : Instr) (s t : State) (h : exec i s = .next t) : CommandEffect s i t := by
  have key : ∃ u, exec i s = .next u ∧ CommandEffect s i u := by
    cases i with
    | nop => exact ⟨_, rfl, .finished _ true⟩
    | clrStatus => exact ⟨_, rfl, .cleared⟩
    | gfAdd a b => exact ⟨_, rfl, .scalar _ _ rfl⟩
    | gfSub a b => exact ⟨_, rfl, .scalar _ _ rfl⟩
    | gfMul a b => exact ⟨_, rfl, .scalar _ _ rfl⟩
    | gfDiv a b => exact ⟨_, rfl, .scalar _ _ rfl⟩
    | vScale c => exact vectorInPlace_effect _ s _ rfl
    | vAdds c => exact vectorInPlace_effect _ s _ rfl
    | vSubs c => exact vectorInPlace_effect _ s _ rfl
    | vAddmul c => exact vectorAddmul_effect c s _ rfl
    | vSubmul c => exact vectorAddmul_effect c s _ rfl
    | cfgEncoder => exact configure_effect .encoder s _ (.inl rfl)
    | cfgDecoder => exact configure_effect .decoder s _ (.inr rfl)
    | store => exact exec_store_effect s
    | decodeGen => exact execDecodeGen_effect s
    | decodeAll => exact execDecodeAll_effect s
    | encode => exact execEncode_effect s
    | flushGen => exact execFlushGen_effect s
    | flushAll => exact execFlushAll_effect s
    | genQuery => exact execGenQuery_effect s
  obtain ⟨u, hu, hform⟩ := key
  rw [h] at hu
  obtain rfl := Host.Outcome.next.inj hu
  exact hform

/-! ### Frames -/

/-- A decode writes the session, BLK and STATUS. -/
theorem finishDecoding_eq (d : Decoding) (s : State) :
    s.finishDecoding d = (s.setSession d.session d.blk).finish d.ok := rfl

/-- Settles O10: every form but that of CLR_STATUS keeps ERR_ANY or sets it, and keeps OVR. -/
theorem stickyBitsClearedByClrStatusOnly : Obligations.StickyBitsClearedByClrStatusOnly := by
  intro i s t h hi
  cases exec_effect i s t h with
  | cleared => exact absurd rfl hi
  | raised => exact ⟨fun _ => rfl, rfl⟩
  | _ => exact ⟨id, rfl⟩

/-- Settles O11: each form names the fields its updates write. -/
theorem commandsWriteOnlyTheirRegisters : Obligations.CommandsWriteOnlyTheirRegisters := by
  intro i s t h
  refine ⟨?_, ?_⟩
  · cases exec_effect i s t h <;> exact ⟨rfl, rfl, rfl, rfl, rfl, rfl, rfl, rfl, rfl, rfl, rfl, rfl, rfl, rfl⟩
  · cases exec_effect i s t h with
    | scalar _ _ format => simp_all
    | vector _ _ format => simp_all
    | configured _ _ command => obtain rfl | rfl := command <;> simp
    | decoded _ _ _ command => obtain rfl | rfl := command <;> simp [finishDecoding_eq]
    | requested _ _ _ command => obtain rfl | rfl := command <;> simp
    | _ => simp

end Sys2Proof.Machine
end

section
/-! SUPPORT. The laws of gf_mul and gf_div that elimination rests on (R158), and of sums in the field: multiplying by
a power of 3 is multiplying by 3 so many times, which is linear. -/

namespace Sys2Proof.Machine

/-! ### Products and quotients -/

@[simp] theorem gfMul_zero_left (p : BitVec 9) (y : Byte) : gfMul p 0#8 y = 0#8 := if_pos (.inl rfl)

@[simp] theorem gfMul_zero_right (p : BitVec 9) (x : Byte) : gfMul p x 0#8 = 0#8 := if_pos (.inr rfl)

@[simp] theorem gfDiv_zero_left (p : BitVec 9) (y : Byte) : gfDiv p 0#8 y = 0#8 := if_pos (.inl rfl)

theorem gfMul_comm (p : BitVec 9) (x y : Byte) : gfMul p x y = gfMul p y x := by
  simp only [gfMul, or_comm (a := x = 0), Nat.add_comm (gfLog p x)]

section
variable (p : BitVec 9) (hp : p ∈ Config.legalPolys)
include hp

/-- Within the table the antilog is the power (R151). -/
theorem gfAntilog_eq_genPow (i : Nat) (h : i ≤ 509) : gfAntilog p i = genPow p i := by
  rw [gfAntilog, if_pos h, genPow_mod p hp]

theorem gfMul_genPow (i j : Nat) : gfMul p (genPow p i) (genPow p j) = genPow p (i + j) := by
  have hi := Nat.mod_lt i (show 0 < 255 by decide)
  have hj := Nat.mod_lt j (show 0 < 255 by decide)
  rw [gfMul, if_neg (by simp only [genPow_ne_zero p hp, or_self, not_false_eq_true]),
    ← genPow_mod p hp i, ← genPow_mod p hp j, gfLog_genPow p hp _ hi, gfLog_genPow p hp _ hj,
    gfAntilog_eq_genPow p hp _ (by omega), ← genPow_mod p hp, ← Nat.add_mod, genPow_mod p hp]

omit hp in
theorem genPow_add (i j : Nat) : genPow p (i + j) = (mulGen p)^[i] (genPow p j) := by
  induction i with
  | zero => rw [Nat.zero_add, Function.iterate_zero_apply]
  | succ i ih => rw [Nat.add_right_comm, genPow_succ, ih, Function.iterate_succ_apply']

omit hp in
theorem iterate_mulGen_xor (i : Nat) (x y : Byte) :
    (mulGen p)^[i] (x ^^^ y) = (mulGen p)^[i] x ^^^ (mulGen p)^[i] y := by
  induction i with
  | zero => rfl
  | succ i ih => simp only [Function.iterate_succ_apply', ih, mulGen_xor]

/-- To multiply by 3^i is to multiply by 3 i times. -/
theorem gfMul_genPow_left (i : Nat) (y : Byte) : gfMul p (genPow p i) y = (mulGen p)^[i] y := by
  by_cases hy : y = 0
  · subst hy
    exact (gfMul_zero_right p _).trans (Function.iterate_fixed (mulGen_zero p) i).symm
  · obtain ⟨j, -, rfl⟩ := genPow_surjective p hp y hy
    rw [gfMul_genPow p hp, genPow_add]

theorem gfMul_xor_right (c x y : Byte) : gfMul p c (x ^^^ y) = gfMul p c x ^^^ gfMul p c y := by
  by_cases hc : c = 0
  · simp [hc]
  · obtain ⟨i, -, rfl⟩ := genPow_surjective p hp c hc
    simp only [gfMul_genPow_left p hp, iterate_mulGen_xor]

theorem gfMul_xor_left (x y c : Byte) : gfMul p (x ^^^ y) c = gfMul p x c ^^^ gfMul p y c := by
  simp only [gfMul_comm p _ c, gfMul_xor_right p hp]

theorem gfMul_assoc (a b c : Byte) : gfMul p (gfMul p a b) c = gfMul p a (gfMul p b c) := by
  by_cases ha : a = 0
  · simp [ha]
  by_cases hb : b = 0
  · simp [hb]
  obtain ⟨i, -, rfl⟩ := genPow_surjective p hp a ha
  obtain ⟨j, -, rfl⟩ := genPow_surjective p hp b hb
  rw [gfMul_genPow p hp, gfMul_genPow_left p hp, gfMul_genPow_left p hp, gfMul_genPow_left p hp,
    Function.iterate_add_apply]

/-- A quotient by a nonzero byte times that byte is the dividend (R153, R158). -/
theorem gfMul_gfDiv_cancel (a b : Byte) (hb : b ≠ 0) : gfMul p (gfDiv p a b) b = a := by
  by_cases ha : a = 0
  · simp [ha]
  obtain ⟨i, hi, rfl⟩ := genPow_surjective p hp a ha
  obtain ⟨j, hj, rfl⟩ := genPow_surjective p hp b hb
  rw [gfDiv, if_neg (by simp only [genPow_ne_zero p hp, or_self, not_false_eq_true]), gfLog_genPow p hp i hi,
    gfLog_genPow p hp j hj, gfAntilog_eq_genPow p hp _ (by omega), gfMul_genPow p hp,
    Nat.sub_add_cancel (by omega), genPow_add_period p hp]

end

/-! ### Sums -/

theorem xorSum_congr (n : Nat) (f g : Nat → Byte) (h : ∀ j < n, f j = g j) : xorSum n f = xorSum n g := by
  induction n with
  | zero => rfl
  | succ n ih => rw [xorSum, xorSum, ih fun j hj => h j (by omega), h n (by omega)]

theorem xorSum_xor (n : Nat) (f g : Nat → Byte) :
    xorSum n (fun j => f j ^^^ g j) = xorSum n f ^^^ xorSum n g := by
  induction n with
  | zero => simp [xorSum]
  | succ n ih =>
    simp only [xorSum, ih]
    ac_rfl

theorem gfMul_xorSum (p : BitVec 9) (hp : p ∈ Config.legalPolys) (c : Byte) (n : Nat) (f : Nat → Byte) :
    gfMul p c (xorSum n f) = xorSum n (fun j => gfMul p c (f j)) := by
  induction n with
  | zero => exact gfMul_zero_right p c
  | succ n ih => simp only [xorSum, gfMul_xor_right p hp, ih]

theorem combination_congr (p : BitVec 9) (n : Nat) (c d : Nat → Byte) (orig : Nat → Nat → Byte) (b : Nat)
    (h : ∀ j < n, c j = d j) : combination p n c orig b = combination p n d orig b :=
  xorSum_congr n _ _ fun j hj => by rw [h j hj]

/-- The combination by a row with a multiple of another row added is the sum of the combinations. -/
theorem combination_addmul (p : BitVec 9) (hp : p ∈ Config.legalPolys) (n : Nat) (c d : Nat → Byte) (k : Byte)
    (orig : Nat → Nat → Byte) (b : Nat) :
    combination p n (fun j => c j ^^^ gfMul p k (d j)) orig b
      = combination p n c orig b ^^^ gfMul p k (combination p n d orig b) := by
  simp only [combination, gfMul_xor_left p hp, gfMul_assoc p hp, xorSum_xor, gfMul_xorSum p hp]

end Sys2Proof.Machine
end

section
/-! SUPPORT. STORE: on matrices that meet R44 the elimination of R243 touches the candidate row only, its recorded row
operations the candidate's slot only, and the rank test reads the candidate's own diagonal entry: the single-row form
of R247. -/

namespace Sys2Proof.Machine

/-! ### Rows and entries -/

namespace Matrix

variable (a : Matrix) (i j : Nat) (v : List Byte)

theorem row_set_same (h : i < a.length) : row (a.set i v) i = v := by
  simp [row, h]

theorem row_set_other (h : j ≠ i) : row (a.set i v) j = row a j := by
  simp [row, Ne.symm h]

theorem set_row_self : a.set i (row a i) = a := by
  by_cases h : i < a.length
  · rw [row, List.getD_eq_getElem _ _ h, List.set_getElem_self]
  · exact List.set_eq_of_length_le (by omega)

variable {a i} in
theorem Square.length_row {n : Nat} (h : Square n a) (hi : i < n) : (row a i).length = n := by
  rw [row, List.getD_eq_getElem _ _ (h.1 ▸ hi)]
  exact h.2 _ (List.getElem_mem _)

variable {a v} in
theorem Square.set {n : Nat} (h : Square n a) (hv : v.length = n) : Square n (a.set i v) := by
  refine ⟨by rw [List.length_set, h.1], fun row hrow => ?_⟩
  rcases List.mem_or_eq_of_mem_set hrow with hrow | rfl
  · exact h.2 row hrow
  · exact hv

theorem entry_set_same (h : i < a.length) : entry (a.set i v) i j = v.getD j 0 := by
  rw [entry, row_set_same a i v h]

theorem entry_set_other (k : Nat) (h : k ≠ i) : entry (a.set i v) k j = entry a k j := by
  rw [entry, row_set_other a i k v h, entry]

/-- Clearing below the diagonal changes nothing where every entry there is 0 already. -/
theorem zeroBelowDiagonal_eq_self (r : Nat) (h : ∀ i ≤ r, ∀ j < i, entry a i j = 0) :
    zeroBelowDiagonal r a = a := by
  refine List.ext_getElem (by simp [zeroBelowDiagonal]) fun i _ hi => ?_
  simp only [zeroBelowDiagonal, List.getElem_mapIdx]
  split
  · next hir =>
    refine List.ext_getElem (by simp) fun j _ hj => ?_
    simp only [List.getElem_mapIdx]
    split
    · next hji =>
      have := h i hir j hji
      rwa [entry, row, List.getD_eq_getElem _ _ hi, List.getD_eq_getElem _ _ hj, eq_comm] at this
    · rfl
  · rfl

end Matrix

section RowAddmul

variable (p : BitVec 9) (c : Byte) (d e : List Byte) (h : d.length = e.length)
include h

theorem length_rowAddmul : (rowAddmul p c d e).length = d.length := by
  rw [rowAddmul, List.length_zipWith, ← h, Nat.min_self]

theorem getD_rowAddmul (j : Nat) : (rowAddmul p c d e).getD j 0 = d.getD j 0 ^^^ gfMul p c (e.getD j 0) := by
  have hlen := length_rowAddmul p c d e h
  by_cases hj : j < d.length
  · rw [List.getD_eq_getElem _ _ (by omega), List.getD_eq_getElem _ _ hj, List.getD_eq_getElem _ _ (by omega)]
    simp only [rowAddmul, List.getElem_zipWith, gfAdd]
  · rw [List.getD_eq_default _ _ (by omega), List.getD_eq_default _ _ (by omega), List.getD_eq_default _ _ (by omega)]
    simp

/-- Zero times a row adds nothing. -/
theorem rowAddmul_zero : rowAddmul p 0#8 d e = d := by
  refine List.ext_getElem (length_rowAddmul p _ d e h) fun j _ _ => ?_
  simp only [rowAddmul, List.getElem_zipWith, gfAdd, gfMul_zero_left, BitVec.xor_zero]

end RowAddmul

/-! ### Block slots -/

namespace Session

variable (ses : Session) (m : Memory) (g i k : Nat) (v w : List Byte)

@[simp] theorem length_readBlk : (ses.readBlk m g i).length = ses.blockSize := Memory.length_readBytes _ _ _

theorem getD_readBlk (b : Nat) (hb : b < ses.blockSize) :
    (ses.readBlk m g i).getD b 0 = m.read (ses.slotOffset g i + b) := Memory.getD_readBytes _ _ _ _ hb

/-- Different slots of a generation do not meet. -/
theorem slots_apart (h : i ≠ k) :
    ses.slotOffset g i + ses.blockSize ≤ ses.slotOffset g k ∨
      ses.slotOffset g k + ses.blockSize ≤ ses.slotOffset g i := by
  rcases Nat.lt_or_gt_of_ne h with h | h
  · exact .inl (ses.slots_disjoint g i g k (by omega))
  · exact .inr (ses.slots_disjoint g k g i (by omega))

variable (hm : m.wf = true) (hv : v.length = ses.blockSize)

theorem writeBlk_wf (hm : m.wf = true) : (ses.writeBlk m g i v).wf = true := Memory.writeBytes_wf _ _ _ hm

include hv in
theorem read_writeBlk_outside (a : Nat) (h : a < ses.slotOffset g i ∨ ses.slotOffset g i + ses.blockSize ≤ a) :
    (ses.writeBlk m g i v).read a = m.read a := Memory.read_writeBytes_outside _ _ _ _ (hv ▸ h)

include hm hv in
theorem readBlk_writeBlk_same : ses.readBlk (ses.writeBlk m g i v) g i = v := by
  rw [readBlk, ← hv]
  exact Memory.readBytes_writeBytes_same m _ v hm

include hv in
theorem readBlk_writeBlk_other (h : k ≠ i) : ses.readBlk (ses.writeBlk m g i v) g k = ses.readBlk m g k :=
  Memory.readBytes_writeBytes_disjoint _ _ _ _ _ (hv ▸ ses.slots_apart g k i h)

include hm hv in
theorem writeBlk_writeBlk_same (hw : w.length = ses.blockSize) :
    ses.writeBlk (ses.writeBlk m g i v) g i w = ses.writeBlk m g i w := by
  have hv' := writeBlk_wf ses m g i v hm
  refine Memory.ext_of_read _ _ (writeBlk_wf _ _ _ _ _ hv') (writeBlk_wf _ _ _ _ _ hm) fun a => ?_
  simp only [writeBlk] at hv' ⊢
  simp only [Memory.read_writeBytes _ _ _ _ hm, Memory.read_writeBytes _ _ _ _ hv', hv, hw]
  split <;> rfl

include hm in
theorem writeBlk_readBlk_self : ses.writeBlk m g i (ses.readBlk m g i) = m := by
  refine Memory.ext_of_read _ _ (writeBlk_wf _ _ _ _ _ hm) hm fun a => ?_
  rw [writeBlk, Memory.read_writeBytes _ _ _ _ hm, length_readBlk]
  split
  · next h =>
    rw [getD_readBlk _ _ _ _ _ (by omega)]
    congr 1
    omega
  · rfl

end Session

/-! ### The order of the elimination, and the rank test -/

/-- The pairs of the elimination that change row r are (0, r), ..., (r-1, r), in this order (R243). -/
theorem eliminationOrder_row (n r : Nat) (h : r < n) :
    ((eliminationOrder n).filter (fun ki => ki.2 = r)).map Prod.fst = List.range r := by
  have hcol : ∀ k, (((List.range' (k + 1) (n - 1 - k)).map (fun i => (k, i))).filter (fun ki => ki.2 = r)).map Prod.fst
      = if k < r then [k] else [] := by
    intro k
    have hmem : r ∈ List.range' (k + 1) (n - 1 - k) ↔ k < r := by
      rw [List.mem_range'_1]
      omega
    have hrow : (List.range' (k + 1) (n - 1 - k)).filter (fun i => i = r) = if k < r then [r] else [] := by
      rw [List.filter_eq, (List.nodup_range' _).count]
      split <;> simp_all
    rw [List.filter_map, List.map_map]
    change List.map (fun _ => k) (List.filter (fun i => decide (i = r)) _) = _
    rw [hrow]
    split <;> rfl
  have hall : ∀ N, (List.range N).flatMap (fun k => if k < r then [k] else []) = List.range (min N r) := by
    intro N
    induction N with
    | zero => simp
    | succ N ih =>
      rw [List.range_succ, List.flatMap_append, ih]
      by_cases hN : N < r
      · rw [Nat.min_eq_left (by omega), Nat.min_eq_left (by omega), List.range_succ]
        simp [hN]
      · rw [Nat.min_eq_right (by omega), Nat.min_eq_right (by omega)]
        simp [hN]
  rw [eliminationOrder, List.filter_flatMap, List.map_flatMap]
  simp only [hcol, hall]
  rw [Nat.min_eq_right (by omega)]

/-- Where the diagonal is nonzero before row r and zero after it, the rank test is on row r (R244). -/
theorem lt_diagonalRank_iff (n r : Nat) (a : Matrix) (hr : r < n) (hbelow : ∀ i < r, Matrix.entry a i i ≠ 0)
    (habove : ∀ i < n, r < i → Matrix.entry a i i = 0) : r < diagonalRank n a ↔ Matrix.entry a r r ≠ 0 := by
  have hcount : ∀ k N, (List.range N).countP (fun i => decide (i < k)) = min k N := by
    intro k N
    induction N with
    | zero => simp
    | succ N ih =>
      rw [List.range_succ, List.countP_append, ih, List.countP_singleton]
      split <;> simp_all <;> omega
  have hrank : ∀ k, (∀ i < n, Matrix.entry a i i ≠ 0 ↔ i < k) → diagonalRank n a = min k n := by
    intro k hk
    rw [← hcount, diagonalRank]
    refine List.countP_congr fun i hi => ?_
    simpa using hk i (List.mem_range.1 hi)
  by_cases h : Matrix.entry a r r = 0
  · have := hrank r fun i hi => ⟨fun hne => ?_, hbelow i⟩
    · simp only [h, ne_eq, not_true_eq_false, iff_false]
      omega
    · by_contra hlt
      rcases Nat.eq_or_lt_of_le (Nat.le_of_not_lt hlt) with rfl | hlt
      · exact hne h
      · exact hne (habove i hi hlt)
  · have := hrank (r + 1) fun i hi => ⟨fun hne => ?_, fun hlt => ?_⟩
    · simp only [h, ne_eq, not_false_eq_true, iff_true]
      omega
    · by_contra hlt
      exact hne (habove i hi (by omega))
    · rcases Nat.eq_or_lt_of_le (Nat.le_of_lt_succ hlt) with rfl | hlt
      · exact h
      · exact hbelow i hlt

end Sys2Proof.Machine
end

section
/-! SUPPORT. STORE in the form of R247: a scratch matrix with its recorded row operations stands for one candidate row
and its block, each step of the elimination keeps this, and so STORE of a packet is its single-row form. -/

namespace Sys2Proof.Machine

/-! ### A generation that meets R44 -/

section
variable {n : Nat} {x : Gen} (hok : x.Ok n)
include hok

theorem Gen.Ok.entry_below_diagonal {i j : Nat} (hi : i < n) (hj : j < i) : Matrix.entry x.matrix i j = 0 := by
  obtain ⟨-, -, haccepted, hbeyond, -⟩ := hok
  by_cases h : i < x.rank
  · exact (haccepted i h).1 j hj
  · exact hbeyond i hi (Nat.le_of_not_lt h) j (Nat.lt_trans hj hi)

theorem Gen.Ok.not_decoded (hr : x.rank < n) : x.decoded = false := by
  obtain ⟨-, -, -, -, hdecoded⟩ := hok
  exact Bool.eq_false_iff.2 fun h => Nat.ne_of_lt hr (hdecoded h).1

/-- An incomplete generation takes one more row with zeros before the diagonal and a nonzero entry on it (R246). -/
theorem Gen.Ok.accept (hr : x.rank < n) (v : List Byte) (hlen : v.length = n) (hzero : ∀ j < x.rank, v.getD j 0 = 0)
    (hpivot : v.getD x.rank 0 ≠ 0) :
    Gen.Ok n { x with rank := x.rank + 1, matrix := x.matrix.set x.rank v } := by
  have hundecoded := hok.not_decoded hr
  obtain ⟨-, hsq, haccepted, hbeyond, -⟩ := hok
  have hrow : x.rank < x.matrix.length := hsq.1 ▸ hr
  refine ⟨hr, hsq.set _ hlen, fun i hi => ?_, fun i hi hri j hj => ?_, fun hd => ?_⟩
  · rcases Nat.eq_or_lt_of_le (Nat.le_of_lt_succ hi) with rfl | hi
    · simp only [Matrix.entry_set_same _ _ _ _ hrow]
      exact ⟨hzero, hpivot⟩
    · simp only [Matrix.entry_set_other _ _ _ _ _ (Nat.ne_of_lt hi)]
      exact haccepted i hi
  · rw [Matrix.entry_set_other _ _ _ _ _ (Nat.ne_of_gt hri)]
    exact hbeyond i hi (Nat.le_of_succ_le hri) j hj
  · exact absurd hd (by simp [hundecoded])

/-- With any row in place of row rank, the rank test is on that row's diagonal entry (R244). -/
theorem Gen.Ok.lt_diagonalRank_set (hr : x.rank < n) (v : List Byte) :
    x.rank < diagonalRank n (x.matrix.set x.rank v) ↔ v.getD x.rank 0 ≠ 0 := by
  obtain ⟨-, hsq, haccepted, hbeyond, -⟩ := hok
  rw [lt_diagonalRank_iff _ _ _ hr, Matrix.entry_set_same _ _ _ _ (hsq.1 ▸ hr)]
  · intro i hi
    rw [Matrix.entry_set_other _ _ _ _ _ (Nat.ne_of_lt hi)]
    exact (haccepted i hi).2
  · intro i hi hri
    rw [Matrix.entry_set_other _ _ _ _ _ (Nat.ne_of_gt hri)]
    exact hbeyond i hi (Nat.le_of_lt hri) i hi

/-- A commit of a row that is zero before the diagonal has nothing left to clear (R246). -/
theorem Gen.Ok.zeroBelowDiagonal_set (hr : x.rank < n) (v : List Byte) (hzero : ∀ j < x.rank, v.getD j 0 = 0) :
    zeroBelowDiagonal x.rank (x.matrix.set x.rank v) = x.matrix.set x.rank v := by
  refine Matrix.zeroBelowDiagonal_eq_self _ _ fun i hi j hj => ?_
  rcases Nat.eq_or_lt_of_le hi with rfl | hi
  · rw [Matrix.entry_set_same _ _ _ _ (hok.2.1.1 ▸ hr)]
    exact hzero j hj
  · rw [Matrix.entry_set_other _ _ _ _ _ (Nat.ne_of_lt hi)]
    exact hok.entry_below_diagonal (hi.trans hr) hj

end

/-! ### The candidate -/

/-- The candidate with columns 0 .. k-1 cleared, in order, by rows 0 .. k-1 of generation g (R247). -/
def Candidate.reduceBelow (p : BitVec 9) (ses : Session) (m : Memory) (g : Nat) (x : Candidate) (k : Nat) : Candidate :=
  (List.range k).foldl (Candidate.reduce p ses m g) x

/-- A candidate row of one coefficient per block, and a block of the session's size. -/
structure Candidate.Sized (ses : Session) (g : Nat) (x : Candidate) : Prop where
  row : x.v.length = ses.blocksOf g
  block : x.d.length = ses.blockSize

/-- The candidate's block is the combination of the original blocks that its row describes (R44 item 4). -/
def Candidate.Consistent (p : BitVec 9) (ses : Session) (g : Nat) (orig : Nat → Nat → Byte) (x : Candidate) : Prop :=
  ∀ b < ses.blockSize, x.d.getD b 0 = combination p (ses.blocksOf g) (fun j => x.v.getD j 0) orig b

section
variable (p : BitVec 9) (ses : Session) (m : Memory) (g : Nat) (x : Candidate) (k : Nat)

theorem Candidate.reduceBelow_succ :
    x.reduceBelow p ses m g (k + 1) = (x.reduceBelow p ses m g k).reduce p ses m g k := by
  rw [reduceBelow, List.range_succ, List.foldl_append]
  rfl

variable (hsq : Matrix.Square (ses.blocksOf g) (ses.gen g).matrix) (hk : k < ses.blocksOf g)
  (hx : x.Sized ses g)
include hsq hk hx

theorem Candidate.length_row_eq : x.v.length = (Matrix.row (ses.gen g).matrix k).length := by
  rw [hx.row, hsq.length_row hk]

theorem Candidate.Sized.reduce : (x.reduce p ses m g k).Sized ses g where
  row := (length_rowAddmul p _ _ _ (x.length_row_eq ses g k hsq hk hx)).trans hx.row
  block := (length_rowAddmul p _ _ _ (by rw [hx.block, Session.length_readBlk])).trans hx.block

/-- What a reduction leaves in column j. -/
theorem Candidate.getD_reduce (j : Nat) : (x.reduce p ses m g k).v.getD j 0 =
    x.v.getD j 0 ^^^ gfMul p (gfDiv p (x.v.getD k 0) (Matrix.entry (ses.gen g).matrix k k))
      (Matrix.entry (ses.gen g).matrix k j) :=
  getD_rowAddmul p _ _ _ (x.length_row_eq ses g k hsq hk hx) j

/-- A reduction by a consistent row keeps the candidate consistent: both sides get the same multiple. -/
theorem Candidate.Consistent.reduce (hp : p ∈ Config.legalPolys) (orig : Nat → Nat → Byte)
    (hc : x.Consistent p ses g orig)
    (hrow : ∀ b < ses.blockSize, m.read (ses.slotOffset g k + b)
      = combination p (ses.blocksOf g) (Matrix.entry (ses.gen g).matrix k) orig b) :
    (x.reduce p ses m g k).Consistent p ses g orig := by
  intro b hb
  have hd := getD_rowAddmul p (gfDiv p (x.v.getD k 0) (Matrix.entry (ses.gen g).matrix k k)) x.d (ses.readBlk m g k)
    (by rw [hx.block, Session.length_readBlk]) b
  rw [Session.getD_readBlk _ _ _ _ _ hb, hc b hb, hrow b hb, ← combination_addmul p hp] at hd
  exact hd.trans (combination_congr p _ _ _ orig b fun j _ => (x.getD_reduce p ses m g k hsq hk hx j).symm)

end

section
variable (p : BitVec 9) (ses : Session) (m : Memory) (g : Nat) (x : Candidate)
  (hok : (ses.gen g).Ok (ses.blocksOf g)) (hx : x.Sized ses g)
include hok hx

theorem Candidate.Sized.reduceBelow (k : Nat) (hk : k ≤ (ses.gen g).rank) :
    (x.reduceBelow p ses m g k).Sized ses g := by
  obtain ⟨hrank, hsq, -⟩ := hok
  induction k with
  | zero => exact hx
  | succ k ih =>
    rw [Candidate.reduceBelow_succ]
    exact (ih (by omega)).reduce p ses m g _ k hsq (by omega)

/-- The reduction clears column after column: the pivot cancels its own, and the row is zero in those before. -/
theorem Candidate.getD_reduceBelow (hp : p ∈ Config.legalPolys) (k : Nat) (hk : k ≤ (ses.gen g).rank) :
    ∀ j < k, (x.reduceBelow p ses m g k).v.getD j 0 = 0 := by
  induction k with
  | zero => exact fun j hj => absurd hj (Nat.not_lt_zero j)
  | succ k ih =>
    have hsized := hx.reduceBelow p ses m g x hok k (by omega)
    obtain ⟨hrank, hsq, haccepted, -⟩ := hok
    obtain ⟨hzero, hpivot⟩ := haccepted k hk
    intro j hj
    rw [reduceBelow_succ, getD_reduce p ses m g _ k hsq (by omega) hsized]
    rcases Nat.eq_or_lt_of_le (Nat.le_of_lt_succ hj) with rfl | hj
    · rw [gfMul_gfDiv_cancel p hp _ _ hpivot]
      exact BitVec.xor_self
    · rw [ih (by omega) j hj, hzero j hj]
      simp

theorem Candidate.Consistent.reduceBelow (hp : p ∈ Config.legalPolys) (orig : Nat → Nat → Byte)
    (hc : x.Consistent p ses g orig) (hrows : ses.Consistent p m g orig) (k : Nat) (hk : k ≤ (ses.gen g).rank) :
    (x.reduceBelow p ses m g k).Consistent p ses g orig := by
  induction k with
  | zero => exact hc
  | succ k ih =>
    have hsized := hx.reduceBelow p ses m g x hok k (by omega)
    obtain ⟨hrank, hsq, -⟩ := hok
    rw [Candidate.reduceBelow_succ]
    exact (ih (by omega)).reduce p ses m g _ k hsq (by omega) hsized hp orig (hrows k hk)

end

/-! ### The scratch elimination -/

/-- A scratch matrix and its recorded row operations stand for a candidate: the matrix is the generation's with the
candidate row in place, and the replay on memory `m` leaves the candidate's block in its slot. -/
structure Scratch.Represents (p : BitVec 9) (ses : Session) (m : Memory) (g : Nat) (sc : Scratch) (x : Candidate) :
    Prop where
  matrix : sc.matrix = (ses.gen g).matrix.set (ses.gen g).rank x.v
  blocks : replayOps p ses g sc.ops m = ses.writeBlk m g (ses.gen g).rank x.d
  sized : x.Sized ses g

theorem replayOps_append (p : BitVec 9) (ses : Session) (g : Nat) (ops : List RowOp) (op : RowOp) (m : Memory) :
    replayOps p ses g (ops ++ [op]) m = ses.writeBlk (replayOps p ses g ops m) g op.i
      (rowAddmul p op.c (ses.readBlk (replayOps p ses g ops m) g op.i)
        (ses.readBlk (replayOps p ses g ops m) g op.k)) := by
  rw [replayOps, List.foldl_append]
  rfl

section
variable (p : BitVec 9) (ses : Session) (m : Memory) (g : Nat) (sc : Scratch) (x : Candidate)
  (hm : m.wf = true) (hok : (ses.gen g).Ok (ses.blocksOf g))
include hm hok

/-- Row operations on the other rows have the multiplier 0. -/
theorem Scratch.Represents.eliminateRow_other (h : sc.Represents p ses m g x) (k i : Nat) (hki : k < i)
    (hi : i < ses.blocksOf g) (hir : i ≠ (ses.gen g).rank) : (eliminateRow p sc (k, i)).Represents p ses m g x := by
  have hc : gfDiv p (Matrix.entry sc.matrix i k) (Matrix.entry sc.matrix k k) = 0#8 := by
    rw [h.matrix, Matrix.entry_set_other _ _ _ _ _ hir, hok.entry_below_diagonal hi hki]
    exact gfDiv_zero_left p _
  have hsq : Matrix.Square (ses.blocksOf g) sc.matrix := h.matrix ▸ hok.2.1.set _ h.sized.row
  refine ⟨?_, ?_, h.sized⟩
  · dsimp only [eliminateRow]
    rw [hc, rowAddmul_zero _ _ _ (by rw [hsq.length_row hi, hsq.length_row (hki.trans hi)]), Matrix.set_row_self,
      h.matrix]
  · dsimp only [eliminateRow]
    rw [replayOps_append, h.blocks, hc, rowAddmul_zero _ _ _ (by simp only [Session.length_readBlk]),
      Session.writeBlk_readBlk_self _ _ _ _ (Session.writeBlk_wf _ _ _ _ _ hm)]

variable (hr : (ses.gen g).rank < ses.blocksOf g)
include hr

/-- A row operation on the candidate row is a reduction of the candidate. -/
theorem Scratch.Represents.eliminateRow_candidate (h : sc.Represents p ses m g x) (k : Nat)
    (hk : k < (ses.gen g).rank) :
    (eliminateRow p sc (k, (ses.gen g).rank)).Represents p ses m g (x.reduce p ses m g k) := by
  obtain ⟨-, hsq, -⟩ := hok
  have hlen : (ses.gen g).rank < (ses.gen g).matrix.length := hsq.1 ▸ hr
  have hne : k ≠ (ses.gen g).rank := Nat.ne_of_lt hk
  have hd := h.sized.block
  have hsized := h.sized.reduce p ses m g x k hsq (by omega)
  refine ⟨?_, ?_, hsized⟩
  · dsimp only [eliminateRow, Candidate.reduce]
    rw [h.matrix, Matrix.entry_set_same _ _ _ _ hlen, Matrix.entry_set_other _ _ _ _ _ hne,
      Matrix.row_set_same _ _ _ hlen, Matrix.row_set_other _ _ _ _ hne, List.set_set]
  · dsimp only [eliminateRow]
    rw [replayOps_append, h.blocks, h.matrix, Matrix.entry_set_same _ _ _ _ hlen,
      Matrix.entry_set_other _ _ _ _ _ hne, Session.readBlk_writeBlk_same _ _ _ _ _ hm hd,
      Session.readBlk_writeBlk_other _ _ _ _ _ _ hd hne]
    exact Session.writeBlk_writeBlk_same _ _ _ _ _ _ hm hd hsized.block

/-- Over a list of pairs only those of the candidate row count. -/
theorem Scratch.Represents.foldl_eliminateRow (pairs : List (Nat × Nat))
    (hpairs : ∀ ki ∈ pairs, ki.1 < ki.2 ∧ ki.2 < ses.blocksOf g) (h : sc.Represents p ses m g x) :
    (pairs.foldl (eliminateRow p) sc).Represents p ses m g
      (((pairs.filter (fun ki => ki.2 = (ses.gen g).rank)).map Prod.fst).foldl (Candidate.reduce p ses m g) x) := by
  induction pairs generalizing sc x with
  | nil => exact h
  | cons ki pairs ih =>
    obtain ⟨k, i⟩ := ki
    obtain ⟨hki, hi⟩ := hpairs (k, i) (List.mem_cons_self)
    have hrest := fun ki hmem => hpairs ki (List.mem_cons_of_mem _ hmem)
    by_cases hir : i = (ses.gen g).rank
    · subst hir
      rw [List.filter_cons_of_pos (by simp)]
      exact ih _ _ hrest (h.eliminateRow_candidate p ses m g sc x hm hok hr k hki)
    · rw [List.filter_cons_of_neg (by simpa using hir)]
      exact ih _ _ hrest (h.eliminateRow_other p ses m g sc x hm hok k i hki hi hir)

omit hm hok hr in
theorem mem_eliminationOrder (n : Nat) (ki : Nat × Nat) (h : ki ∈ eliminationOrder n) : ki.1 < ki.2 ∧ ki.2 < n := by
  simp only [eliminationOrder, List.mem_flatMap, List.mem_range, List.mem_map, List.mem_range'_1] at h
  obtain ⟨k, hk, i, hi, rfl⟩ := h
  dsimp only
  omega

/-- The elimination of R243, with its replay, is the reduction of the candidate by every accepted row. -/
theorem eliminate_represents (hx : x.Sized ses g) (hslot : ses.writeBlk m g (ses.gen g).rank x.d = m) :
    (eliminate p (ses.gen g).matrix (ses.blocksOf g) (ses.gen g).rank x.v).Represents p ses m g
      (x.reduceBelow p ses m g (ses.gen g).rank) := by
  have hstart : Scratch.Represents p ses m g { matrix := (ses.gen g).matrix.set (ses.gen g).rank x.v, ops := [] } x :=
    ⟨rfl, hslot.symm, hx⟩
  have := hstart.foldl_eliminateRow p ses m g _ x hm hok hr (eliminationOrder (ses.blocksOf g))
    (fun ki h => mem_eliminationOrder _ ki h)
  rwa [eliminationOrder_row _ _ hr] at this

end

/-! ### STORE of a packet in the single-row form -/

/-- The staged packet as a candidate for generation g (R245). -/
def State.packet (s : State) (ses : Session) (g : Nat) : Candidate where
  v := s.packetCoeffs (ses.blocksOf g)
  d := s.packetData ses.blockSize

/-- BLK with the raw packet data in the slot of row rank[g] (R245). -/
def State.blkWithPacket (s : State) (ses : Session) (g : Nat) : Memory :=
  ses.writeBlk s.blk g (ses.gen g).rank (s.packetData ses.blockSize)

/-- The candidate that the packet is reduced to by the accepted rows of generation g (R247). -/
def State.reducedPacket (s : State) (ses : Session) (g : Nat) : Candidate :=
  (s.packet ses g).reduceBelow s.params.gfPoly ses (s.blkWithPacket ses g) g (ses.gen g).rank

/-- The scratch matrix and the recorded row operations for the packet (R243). -/
def State.eliminated (s : State) (ses : Session) (g : Nat) : Scratch :=
  eliminate s.params.gfPoly (ses.gen g).matrix (ses.blocksOf g) (ses.gen g).rank (s.packet ses g).v

theorem storePacket_eq (ses : Session) (g : Nat) (s : State) : storePacket ses g s =
    if (ses.gen g).rank < diagonalRank (ses.blocksOf g) (s.eliminated ses g).matrix then
      (s.setSession (ses.commit g (ses.gen g).rank (s.eliminated ses g).matrix)
        (replayOps s.params.gfPoly ses g (s.eliminated ses g).ops (s.blkWithPacket ses g))).finish true
    else (s.setBlk (s.blkWithPacket ses g)).finish false := rfl

theorem State.packet_sized (s : State) (ses : Session) (g : Nat) : (s.packet ses g).Sized ses g :=
  ⟨Memory.length_readBytes _ _ _, Memory.length_readBytes _ _ _⟩

/-- The session with the reduced candidate as the new row of generation g (R246). -/
def State.acceptedSession (s : State) (ses : Session) (g : Nat) : Session :=
  ses.setGen g { ses.gen g with
    rank := (ses.gen g).rank + 1
    matrix := (ses.gen g).matrix.set (ses.gen g).rank (s.reducedPacket ses g).v }

/-- BLK with the reduced candidate's block in the slot of row rank[g] (R246). -/
def State.acceptedBlk (s : State) (ses : Session) (g : Nat) : Memory :=
  ses.writeBlk (s.blkWithPacket ses g) g (ses.gen g).rank (s.reducedPacket ses g).d

/-- What the single-row form of STORE does: a candidate with a nonzero diagonal entry becomes the new row and block, and
any other one is rejected with the raw data left in its slot. -/
theorem singleRowStore_eq (ses : Session) (g : Nat) (s : State) : singleRowStore ses g s =
    if (s.reducedPacket ses g).v.getD (ses.gen g).rank 0 ≠ 0 then
      (s.setSession (s.acceptedSession ses g) (s.acceptedBlk ses g)).finish true
    else (s.setBlk (s.blkWithPacket ses g)).finish false := rfl

section
variable (s : State) (ses : Session) (g : Nat) (hp : s.params.gfPoly ∈ Config.legalPolys) (hm : s.blk.wf = true)
  (hok : (ses.gen g).Ok (ses.blocksOf g)) (hr : (ses.gen g).rank < ses.blocksOf g)

theorem State.blkWithPacket_wf (hm : s.blk.wf = true) : (s.blkWithPacket ses g).wf = true :=
  Session.writeBlk_wf _ _ _ _ _ hm

include hok in
theorem State.reducedPacket_sized : (s.reducedPacket ses g).Sized ses g :=
  (s.packet_sized ses g).reduceBelow _ _ _ _ _ hok _ (Nat.le_refl _)

include hp hok in
theorem State.reducedPacket_cleared : ∀ j < (ses.gen g).rank, (s.reducedPacket ses g).v.getD j 0 = 0 :=
  Candidate.getD_reduceBelow _ _ _ _ _ hok (s.packet_sized ses g) hp _ (Nat.le_refl _)

include hm hok hr in
theorem State.eliminated_represents : (s.eliminated ses g).Represents s.params.gfPoly ses (s.blkWithPacket ses g) g
    (s.reducedPacket ses g) :=
  eliminate_represents _ _ _ _ _ (s.blkWithPacket_wf ses g hm) hok hr (s.packet_sized ses g)
    (Session.writeBlk_writeBlk_same _ _ _ _ _ _ hm (s.packet_sized ses g).block (s.packet_sized ses g).block)

include hp hm hok hr in
/-- STORE of a packet by scratch matrix, recorded operations and commit is its single-row form (R247). -/
theorem storePacket_eq_singleRowStore : storePacket ses g s = singleRowStore ses g s := by
  have hrep := s.eliminated_represents ses g hm hok hr
  rw [storePacket_eq, singleRowStore_eq, State.acceptedSession, State.acceptedBlk, hrep.matrix, hrep.blocks,
    Session.commit, hok.zeroBelowDiagonal_set hr _ (s.reducedPacket_cleared ses g hp hok),
    if_congr (hok.lt_diagonalRank_set hr _) rfl rfl]

include hp hm hok hr in
/-- All STORE of a packet can do: reject the packet, its raw data left in the slot, or accept the reduced one. -/
theorem storePacket_cases :
    storePacket ses g s = (s.setBlk (s.blkWithPacket ses g)).finish false ∨
    ((s.reducedPacket ses g).v.getD (ses.gen g).rank 0 ≠ 0 ∧
      storePacket ses g s = (s.setSession (s.acceptedSession ses g) (s.acceptedBlk ses g)).finish true) := by
  rw [storePacket_eq_singleRowStore s ses g hp hm hok hr, singleRowStore_eq]
  split
  · next h => exact .inr ⟨h, rfl⟩
  · exact .inl rfl

end

end Sys2Proof.Machine
end

section
/-! SUPPORT. Proofs of the statements on what STORE leaves (R44 item 4, R245-R250) and on ranks and decoded flags over
all commands (R41, R42). -/

namespace Sys2Proof.Machine

/-! ### What STORE leaves in BLK -/

section
variable (s : State) (ses : Session) (g : Nat)

theorem read_blkWithPacket_outside (a : Nat) (h : a < ses.slotOffset g (ses.gen g).rank ∨
    ses.slotOffset g (ses.gen g).rank + ses.blockSize ≤ a) : (s.blkWithPacket ses g).read a = s.blk.read a :=
  Session.read_writeBlk_outside _ _ _ _ _ (s.packet_sized ses g).block a h

variable (hok : (ses.gen g).Ok (ses.blocksOf g))
include hok

theorem read_acceptedBlk_outside (a : Nat) (h : a < ses.slotOffset g (ses.gen g).rank ∨
    ses.slotOffset g (ses.gen g).rank + ses.blockSize ≤ a) : (s.acceptedBlk ses g).read a = s.blk.read a :=
  (Session.read_writeBlk_outside _ _ _ _ _ (s.reducedPacket_sized ses g hok).block a h).trans
    (read_blkWithPacket_outside s ses g a h)

theorem read_acceptedBlk_slot (hm : s.blk.wf = true) (b : Nat) (hb : b < ses.blockSize) :
    (s.acceptedBlk ses g).read (ses.slotOffset g (ses.gen g).rank + b) = (s.reducedPacket ses g).d.getD b 0 := by
  have hlen := (s.reducedPacket_sized ses g hok).block
  rw [← Session.getD_readBlk _ _ _ _ _ hb, State.acceptedBlk,
    Session.readBlk_writeBlk_same _ _ _ _ _ (s.blkWithPacket_wf ses g hm) hlen]

end

/-- The bytes of an accepted row's slot lie outside the slot of row rank[g]. -/
theorem slot_outside (ses : Session) (g i r b : Nat) (hi : i ≠ r) (hb : b < ses.blockSize) :
    ses.slotOffset g i + b < ses.slotOffset g r ∨ ses.slotOffset g r + ses.blockSize ≤ ses.slotOffset g i + b := by
  rcases ses.slots_apart g i r hi with h | h <;> omega

/-- Settles O30: in the single-row form both writes of STORE are to the slot of row rank[g]. -/
theorem storeWritesOneSlotOnly : Obligations.StoreWritesOneSlotOnly := by
  intro s t ses hs hlegal hm hses ht a ha
  obtain ⟨b, h⟩ | ⟨hg, hne, h⟩ := exec_store_cases s ses hs
  · obtain rfl := Host.Outcome.next.inj (h.symm.trans ht)
    rfl
  · obtain rfl := Host.Outcome.next.inj (h.symm.trans ht)
    obtain ⟨-, -, hgens⟩ := hses
    have hok := (hgens _ hg).1
    have hr := Nat.lt_of_le_of_ne hok.1 hne
    obtain hreject | ⟨-, haccept⟩ := storePacket_cases s ses _ hlegal.1 hm hok hr
    · rw [hreject]
      exact read_blkWithPacket_outside s ses _ a ha
    · rw [haccept]
      exact read_acceptedBlk_outside s ses _ hok a ha

/-! ### Accepted rows stay consistent -/

theorem packet_consistent (s : State) (ses : Session) (g : Nat) (orig : Nat → Nat → Byte)
    (h : s.PacketConsistent (ses.blocksOf g) ses.blockSize orig) :
    (s.packet ses g).Consistent s.params.gfPoly ses g orig := by
  intro b hb
  have hd : (s.packet ses g).d.getD b 0 = s.dstg.read b := by
    rw [State.packet, State.packetData, Memory.getD_readBytes _ _ _ _ hb, Nat.zero_add]
  rw [hd, h b hb]
  refine combination_congr _ _ _ _ orig b fun j hj => ?_
  rw [State.packet, State.packetCoeffs, Memory.getD_readBytes _ _ _ _ hj, Nat.zero_add]

/-- Rows stay consistent in a memory that reads the same outside the slot of row rank[g]. -/
theorem consistent_of_read_outside (p : BitVec 9) (ses : Session) (m m' : Memory) (g : Nat) (orig : Nat → Nat → Byte)
    (hrows : ses.Consistent p m g orig)
    (h : ∀ a, (a < ses.slotOffset g (ses.gen g).rank ∨ ses.slotOffset g (ses.gen g).rank + ses.blockSize ≤ a) →
      m'.read a = m.read a) : ses.Consistent p m' g orig := by
  intro i hi b hb
  rw [h _ (slot_outside ses g i _ b (Nat.ne_of_lt hi) hb)]
  exact hrows i hi b hb

/-- The accepted row is consistent with its slot, and the rows before it are as they were. -/
theorem acceptedSession_consistent (s : State) (ses : Session) (g : Nat) (orig : Nat → Nat → Byte)
    (hp : s.params.gfPoly ∈ Config.legalPolys) (hm : s.blk.wf = true) (hok : (ses.gen g).Ok (ses.blocksOf g))
    (hr : (ses.gen g).rank < ses.blocksOf g) (hg : g < ses.gens.length)
    (hrows : ses.Consistent s.params.gfPoly s.blk g orig)
    (hpacket : s.PacketConsistent (ses.blocksOf g) ses.blockSize orig) :
    (s.acceptedSession ses g).Consistent s.params.gfPoly (s.acceptedBlk ses g) g orig := by
  have hlen : (ses.gen g).rank < (ses.gen g).matrix.length := hok.2.1.1 ▸ hr
  have hkept := consistent_of_read_outside _ ses _ (s.acceptedBlk ses g) g orig hrows
    (read_acceptedBlk_outside s ses g hok)
  have hreduced : (s.reducedPacket ses g).Consistent s.params.gfPoly ses g orig :=
    (packet_consistent s ses g orig hpacket).reduceBelow _ _ _ _ _ hok (s.packet_sized ses g) hp orig
      (consistent_of_read_outside _ ses _ _ g orig hrows (read_blkWithPacket_outside s ses g)) _ (Nat.le_refl _)
  intro i hi b hb
  rw [State.acceptedSession] at hi ⊢
  rw [Session.gen_setGen_same _ _ _ hg] at hi ⊢
  rcases Nat.eq_or_lt_of_le (Nat.le_of_lt_succ hi) with rfl | hi
  · refine (read_acceptedBlk_slot s ses g hok hm b hb).trans ((hreduced b hb).trans ?_)
    exact combination_congr _ _ _ _ orig b fun j _ => (Matrix.entry_set_same _ _ j _ hlen).symm
  · refine (hkept i hi b hb).trans (combination_congr _ _ _ _ orig b fun j _ => ?_)
    exact (Matrix.entry_set_other _ _ j _ i (Nat.ne_of_lt hi)).symm

/-- Settles O33: reduction adds the same multiples to the packet's coefficients and to its data, so the new row is
consistent where the packet and the old rows are. -/
theorem storeKeepsRowsConsistent : Obligations.StoreKeepsRowsConsistent := by
  intro s t ses orig hs hlegal hm hses hg hrows hpacket ht
  obtain ⟨b, h⟩ | ⟨-, hne, h⟩ := exec_store_cases s ses hs
  · obtain rfl := Host.Outcome.next.inj (h.symm.trans ht)
    exact ⟨ses, hs, hrows⟩
  · obtain rfl := Host.Outcome.next.inj (h.symm.trans ht)
    obtain ⟨-, hcount, hgens⟩ := hses
    have hok := (hgens _ hg).1
    have hr := Nat.lt_of_le_of_ne hok.1 hne
    obtain hreject | ⟨-, haccept⟩ := storePacket_cases s ses _ hlegal.1 hm hok hr
    · rw [hreject]
      exact ⟨ses, hs, consistent_of_read_outside _ ses _ _ _ orig hrows (read_blkWithPacket_outside s ses _)⟩
    · rw [haccept]
      exact ⟨_, rfl, acceptedSession_consistent s ses _ orig hlegal.1 hm hok hr (hcount ▸ hg) hrows hpacket⟩

/-! ### Sessions that go on -/

/-- A session that goes on from another: the same mode and geometry, and as many generations. -/
structure Session.Continues (ses ses' : Session) : Prop where
  geometry : ses' = { ses with gens := ses'.gens }
  length : ses'.gens.length = ses.gens.length

namespace Session

theorem Continues.refl (ses : Session) : ses.Continues ses := ⟨rfl, rfl⟩

theorem Continues.setGen {ses ses' : Session} (h : ses.Continues ses') (g : Nat) (x : Gen) :
    ses.Continues (ses'.setGen g x) where
  geometry := by
    rw [Session.setGen, h.geometry]
  length := by rw [setGen_gens, List.length_set, h.length]

/-- A generation after an update of one. -/
theorem gen_setGen (ses : Session) (g h : Nat) (x : Gen) :
    (ses.setGen g x).gen h = if h = g ∧ g < ses.gens.length then x else ses.gen h := by
  by_cases hne : h = g
  · subst hne
    by_cases hlt : h < ses.gens.length
    · rw [gen_setGen_same _ _ _ hlt, if_pos ⟨rfl, hlt⟩]
    · rw [if_neg fun hand => hlt hand.2, setGen, List.set_eq_of_length_le (Nat.le_of_not_lt hlt)]
  · rw [gen_setGen_other _ _ _ _ hne, if_neg fun hand => hne hand.1]

theorem Continues.commit {ses ses' : Session} (h : ses.Continues ses') (g r : Nat) (a : Matrix) :
    ses.Continues (ses'.commit g r a) := h.setGen g _

theorem gen_commit_same (ses : Session) (g r : Nat) (a : Matrix) (hg : g < ses.gens.length) :
    (ses.commit g r a).gen g = { ses.gen g with rank := r + 1, matrix := zeroBelowDiagonal r a } :=
  ses.gen_setGen_same g _ hg

theorem gen_commit_other (ses : Session) (g h r : Nat) (a : Matrix) (hne : h ≠ g) :
    (ses.commit g r a).gen h = ses.gen h := ses.gen_setGen_other g h _ hne

theorem gen_finalize_rank (ses : Session) (g h : Nat) : ((ses.finalize g).gen h).rank = (ses.gen h).rank := by
  rw [finalize, gen_setGen]
  split
  · next hand => rw [hand.1]
  · rfl

theorem gen_finalize_decoded (ses : Session) (g h : Nat) (hd : (ses.gen h).decoded = true) :
    ((ses.finalize g).gen h).decoded = true := by
  rw [finalize, gen_setGen]
  split
  · rfl
  · exact hd

end Session

/-- Settles O29: STORE completes without a change of the session, or commits to generation PKT_GEN. -/
theorem storeChangesOneRankByAtMostOne : Obligations.StoreChangesOneRankByAtMostOne := by
  intro s ses hs hcount
  obtain ⟨b, h⟩ | ⟨hg, -, h⟩ := exec_store_cases s ses hs
  · refine ⟨ses, s.blk, b, ?_, fun _ _ => rfl, rfl, rfl, rfl, .inl rfl⟩
    exact h.trans (congrArg (fun u => Host.Outcome.next (State.finish b u)) (setSession_self s ses hs).symm)
  · obtain ⟨ses', m, b, hout, rfl | ⟨a, rfl, hb⟩⟩ := storePacket_eq_setSession ses s.pktGen.toNat s hs
    · exact ⟨ses', m, b, hout ▸ h, fun _ _ => rfl, rfl, rfl, rfl, .inl rfl⟩
    · have hcont := (Session.Continues.refl ses).commit s.pktGen.toNat (ses.gen s.pktGen.toNat).rank a
      have hgen := ses.gen_commit_same s.pktGen.toNat (ses.gen s.pktGen.toNat).rank a (hcount ▸ hg)
      exact ⟨_, m, b, hout ▸ h, fun k hk => ses.gen_commit_other _ k _ a hk, by rw [hgen], hcont.geometry, hcont.length,
        .inr ⟨by rw [hgen], hb⟩⟩

/-! ### Decoding, generation by generation -/

/-- All decode_gen can do: nothing, or finalize a complete generation that is not decoded (R270). -/
theorem decodeOne_cases (p : BitVec 9) (ses : Session) (m : Memory) (g : Nat) :
    (∃ ok, decodeOne p ses m g = { ok := ok, session := ses, blk := m }) ∨
    (g < ses.numGenerations ∧ ses.blocksOf g ≤ (ses.gen g).rank ∧
      decodeOne p ses m g = { ok := true, session := ses.finalize g, blk := backSubstitute p ses g m }) := by
  unfold decodeOne
  split
  · exact .inl ⟨_, rfl⟩
  · split
    · exact .inl ⟨_, rfl⟩
    · split
      · exact .inl ⟨_, rfl⟩
      · exact .inr ⟨by omega, by omega, rfl⟩

/-- What holds of a session and BLK, and is kept by every finalization of a complete generation, holds after a decode of
any generations (R270, R273). -/
theorem foldl_decodeNext_induction (p : BitVec 9) (P : Session → Memory → Prop)
    (hstep : ∀ ses m g, P ses m → g < ses.numGenerations → ses.blocksOf g ≤ (ses.gen g).rank →
      P (ses.finalize g) (backSubstitute p ses g m))
    (gs : List Nat) (d : Decoding) (h : P d.session d.blk) :
    P (gs.foldl (decodeNext p) d).session (gs.foldl (decodeNext p) d).blk := by
  induction gs generalizing d with
  | nil => exact h
  | cons g gs ih =>
    refine ih _ ?_
    dsimp only [decodeNext]
    obtain ⟨ok, hd⟩ | ⟨hg, hr, hd⟩ := decodeOne_cases p d.session d.blk g
    · rw [hd]
      exact h
    · rw [hd]
      exact hstep _ _ _ h hg hr

/-! ### Ranks and flags -/

/-- How command `i` may leave a session that it does not configure: ranks grow by STORE only, flags by a decode only. -/
structure Session.GrowsBy (i : Instr) (ses ses' : Session) : Prop where
  continues : ses.Continues ses'
  rank : ∀ g, (ses'.gen g).rank = (ses.gen g).rank ∨ (i = .store ∧ (ses'.gen g).rank = (ses.gen g).rank + 1)
  decoded : ∀ g, (ses.gen g).decoded = true → (ses'.gen g).decoded = true
  flag : i ≠ .decodeGen → i ≠ .decodeAll → ∀ g, (ses'.gen g).decoded = (ses.gen g).decoded

namespace Session

theorem GrowsBy.refl (i : Instr) (ses : Session) : ses.GrowsBy i ses where
  continues := .refl ses
  rank _ := .inl rfl
  decoded _ := id
  flag _ _ _ := rfl

theorem GrowsBy.commit (ses : Session) (g : Nat) (a : Matrix) (hg : g < ses.gens.length) :
    ses.GrowsBy .store (ses.commit g (ses.gen g).rank a) := by
  have hgen : ∀ h, (((ses.commit g (ses.gen g).rank a).gen h).rank = (ses.gen h).rank ∨
      ((ses.commit g (ses.gen g).rank a).gen h).rank = (ses.gen h).rank + 1) ∧
      ((ses.commit g (ses.gen g).rank a).gen h).decoded = (ses.gen h).decoded := by
    intro h
    by_cases hne : h = g
    · subst hne
      rw [gen_commit_same _ _ _ _ hg]
      exact ⟨.inr rfl, rfl⟩
    · rw [gen_commit_other _ _ _ _ _ hne]
      exact ⟨.inl rfl, rfl⟩
  exact {
    continues := (Continues.refl ses).commit g _ a
    rank := fun h => (hgen h).1.imp_right fun hr => ⟨rfl, hr⟩
    decoded := fun h hd => (hgen h).2.trans hd
    flag := fun _ _ h => (hgen h).2 }

theorem GrowsBy.decode (i : Instr) (command : i = .decodeGen ∨ i = .decodeAll) (p : BitVec 9) (ses : Session)
    (m : Memory) (gs : List Nat) :
    ses.GrowsBy i (gs.foldl (decodeNext p) { ok := true, session := ses, blk := m }).session :=
  foldl_decodeNext_induction p (fun ses' _ => ses.GrowsBy i ses')
    (fun ses' _ g h _ _ => {
      continues := h.continues.setGen g _
      rank := fun k => ses'.gen_finalize_rank g k ▸ h.rank k
      decoded := fun k hd => ses'.gen_finalize_decoded g k (h.decoded k hd)
      flag := fun h1 h2 => (command.elim h1 h2).elim })
    gs _ (.refl i ses)

end Session

/-- Whatever a command but CFG_* answers, the session goes on and only grows. -/
theorem CommandEffect.session_growsBy {s t : State} {i : Instr} (h : CommandEffect s i t) (ses : Session)
    (hs : s.session = some ses) (hcount : ses.gens.length = ses.numGenerations) (henc : i ≠ .cfgEncoder)
    (hdec : i ≠ .cfgDecoder) : ∃ ses', t.session = some ses' ∧ ses.GrowsBy i ses' := by
  cases h with
  | configured _ _ command => exact (command.elim henc hdec).elim
  | stored ses₀ ses' m b active inRange _ _ session =>
    obtain rfl : ses₀ = ses := Option.some.inj (active.symm.trans hs)
    obtain rfl | ⟨a, rfl, -⟩ := session
    · exact ⟨_, rfl, .refl _ _⟩
    · exact ⟨_, rfl, .commit ses₀ _ a (hcount ▸ inRange)⟩
  | decoded _ ses₀ gs command active =>
    obtain rfl : ses₀ = ses := Option.some.inj (active.symm.trans hs)
    exact ⟨_, rfl, .decode i command _ ses₀ _ gs⟩
  | _ => exact ⟨ses, hs, .refl _ _⟩

/-- Settles O60: read off the forms of a command's answer. Only a commit raises a rank, only a finalization a flag. -/
theorem ranksAndDecodedFlagsOnlyGrow : Obligations.RanksAndDecodedFlagsOnlyGrow := by
  intro i s t ses hs hcount henc hdec ht
  obtain ⟨ses', hs', hgrows⟩ := (exec_effect i s t ht).session_growsBy ses hs hcount henc hdec
  exact ⟨ses', hs', hgrows.continues.geometry, hgrows.continues.length, fun g =>
    ⟨hgrows.rank g, hgrows.decoded g, fun h1 h2 => hgrows.flag h1 h2 g⟩⟩

end Sys2Proof.Machine
end

section
/-! SUPPORT. The invariant of the machine (State.Inv): every agent's move keeps it. A command is taken by the forms of
its answer, part of the invariant by part. -/

namespace Sys2Proof.Machine

/-! ### Valid configurations and the sizes of memories -/

theorem validConfig_iff (p : Config.Params) (bs bpg len : Nat) : validConfig p bs bpg len = true ↔
    bs ≠ 0 ∧ bpg ≠ 0 ∧ len ≠ 0 ∧ bs ≤ p.maxBlockSize ∧ bpg ≤ p.maxGenBlocks ∧ bufferSizeOf bs len ≤ p.maxBuffer ∧
      numGenerationsOf bs bpg len ≤ p.maxGenerations := decide_eq_true_iff

/-- Every slot of a valid session lies in BLK. -/
theorem slot_fits (p : Config.Params) (ses : Session) (g i : Nat)
    (hv : validConfig p ses.blockSize ses.blocksPerGen ses.dataLength = true) (hg : g < ses.numGenerations)
    (hi : i < ses.blocksOf g) : ses.slotOffset g i + ses.blockSize ≤ p.maxBuffer := by
  obtain ⟨hbs, hbpg, hlen, -, -, hbuffer, -⟩ := (validConfig_iff ..).1 hv
  exact Nat.le_trans
    (ses.slot_within g i (Nat.pos_of_ne_zero hbs) (Nat.pos_of_ne_zero hbpg) (Nat.pos_of_ne_zero hlen) hg hi) hbuffer

/-- A generation of a valid session has at most MAX_GEN_BLOCKS blocks. -/
theorem blocksOf_le (p : Config.Params) (ses : Session) (g : Nat)
    (hv : validConfig p ses.blockSize ses.blocksPerGen ses.dataLength = true) : ses.blocksOf g ≤ p.maxGenBlocks := by
  obtain ⟨hbs, hbpg, hlen, -, hmax, -⟩ := (validConfig_iff ..).1 hv
  exact Nat.le_trans (Partition.genBlocksOf_bounds _ _ _ g (Nat.pos_of_ne_zero hbs) (Nat.pos_of_ne_zero hbpg)
    (Nat.pos_of_ne_zero hlen)).2 hmax

theorem Memory.writeBytes_fits {size : Nat} {m : Memory} (h : m.Fits size) (a : Nat) (vs : List Byte)
    (ha : a + vs.length ≤ size) : (m.writeBytes a vs).Fits size :=
  ⟨Memory.writeBytes_wf m a vs h.1, Memory.writeBytes_within size m a vs h.2 ha⟩

section
variable (p : Config.Params) (ses : Session) (g : Nat) (hg : g < ses.numGenerations)
  (hv : validConfig p ses.blockSize ses.blocksPerGen ses.dataLength = true)
include hg hv

theorem writeBlk_fits (m : Memory) (i : Nat) (v : List Byte) (hm : m.Fits p.maxBuffer) (hi : i < ses.blocksOf g)
    (hlen : v.length = ses.blockSize) : (ses.writeBlk m g i v).Fits p.maxBuffer :=
  Memory.writeBytes_fits hm _ v (hlen ▸ slot_fits p ses g i hv hg hi)

theorem solveRow_fits (q : BitVec 9) (m : Memory) (i : Nat) (hm : m.Fits p.maxBuffer) (hi : i < ses.blocksOf g) :
    (solveRow q ses g m i).Fits p.maxBuffer := by
  refine writeBlk_fits p ses g hg hv _ i _ ?_ hi (by rw [rowDiv, List.length_map, Session.length_readBlk])
  refine List.foldlRecOn _ _ hm fun m hm j _ => writeBlk_fits p ses g hg hv m i _ hm hi ?_
  rw [length_rowAddmul _ _ _ _ (by simp only [Session.length_readBlk]), Session.length_readBlk]

/-- Back substitution writes in the slots of its generation only, and so within BLK (R271). -/
theorem backSubstitute_fits (q : BitVec 9) (m : Memory) (hm : m.Fits p.maxBuffer) :
    (backSubstitute q ses g m).Fits p.maxBuffer := by
  refine List.foldlRecOn _ _ hm fun m hm i hi => solveRow_fits p ses g hg hv q m i hm ?_
  exact List.mem_range.1 (List.mem_reverse.1 hi)

end

/-! ### Generations and sessions that meet R44 -/

namespace Matrix

theorem square_identity (n : Nat) : Square n (identity n) := by
  refine ⟨by simp [identity], fun row hrow => ?_⟩
  obtain ⟨i, -, rfl⟩ := List.mem_map.1 hrow
  simp

theorem entry_identity (n i j : Nat) (hi : i < n) (hj : j < n) : entry (identity n) i j = if i = j then 1 else 0 := by
  simp [entry, row, identity, hi, hj]

theorem square_zero (n : Nat) : Square n (zero n) := by
  refine ⟨by simp [zero], fun row hrow => ?_⟩
  rw [List.eq_of_mem_replicate hrow, List.length_replicate]

theorem entry_zero (n i j : Nat) (hi : i < n) (hj : j < n) : entry (zero n) i j = 0 := by
  simp [entry, row, zero, hi, hj]

end Matrix

/-- Full rank and the identity meet R44, decoded or not. -/
theorem Gen.ok_identity (n : Nat) (d : Bool) : Gen.Ok n { rank := n, decoded := d, matrix := Matrix.identity n } := by
  refine ⟨Nat.le_refl n, Matrix.square_identity n, fun i hi => ⟨fun j hj => ?_, ?_⟩, fun i hi hni => ?_,
    fun _ => ⟨rfl, rfl⟩⟩
  · rw [Matrix.entry_identity n i j hi (hj.trans hi), if_neg (Nat.ne_of_gt hj)]
  · rw [Matrix.entry_identity n i i hi hi, if_pos rfl]
    decide
  · exact absurd hi (Nat.not_lt.2 hni)

theorem Gen.ok_zero (n : Nat) : Gen.Ok n { rank := 0, decoded := false, matrix := Matrix.zero n } :=
  ⟨Nat.zero_le n, Matrix.square_zero n, fun _ hi => absurd hi (Nat.not_lt_zero _),
    fun i hi _ j hj => Matrix.entry_zero n i j hi hj, fun hd => absurd hd Bool.false_ne_true⟩

/-- A fresh generation meets R44, and is decoded in encoder mode (R214, R215). -/
theorem Gen.fresh_ok (mode : Mode) (n : Nat) :
    (Gen.fresh mode n).Ok n ∧ (mode = .encoder → (Gen.fresh mode n).decoded = true) := by
  cases mode with
  | encoder => exact ⟨Gen.ok_identity n true, fun _ => rfl⟩
  | decoder => exact ⟨Gen.ok_zero n, fun h => Mode.noConfusion h⟩

/-- A valid configuration creates a session that meets R44. -/
theorem Session.create_ok (p : Config.Params) (mode : Mode) (bs bpg len : Nat) (hv : validConfig p bs bpg len = true) :
    (Session.create mode bs bpg len).Ok p := by
  obtain ⟨hbs, hbpg, hlen, -⟩ := (validConfig_iff ..).1 hv
  have hn := (Partition.numGenerationsOf_bounds bs bpg len (Nat.pos_of_ne_zero hbs) (Nat.pos_of_ne_zero hbpg)
    (Nat.pos_of_ne_zero hlen)).1
  refine ⟨hv, Session.length_gens_create mode bs bpg len hn, fun g hg => ?_⟩
  rw [Session.gen_create mode bs bpg len g hg]
  exact Gen.fresh_ok mode _

/-- A session keeps R44 where a generation is replaced by one that meets it. -/
theorem Session.Ok.setGen {p : Config.Params} {ses : Session} (h : ses.Ok p) (g : Nat) (x : Gen)
    (hx : x.Ok (ses.blocksOf g)) (hd : ses.mode = .encoder → x.decoded = true) : (ses.setGen g x).Ok p := by
  obtain ⟨hv, hcount, hgens⟩ := h
  refine ⟨hv, by rw [setGen_gens, List.length_set, hcount, setGen_numGenerations], fun k hk => ?_⟩
  by_cases hkg : k = g
  · subst hkg
    rw [gen_setGen_same _ _ _ (hcount ▸ hk)]
    exact ⟨hx, hd⟩
  · rw [gen_setGen_other _ _ _ _ hkg]
    exact hgens k hk

theorem Session.Ok.finalize {p : Config.Params} {ses : Session} (h : ses.Ok p) (g : Nat) (hg : g < ses.numGenerations)
    (hr : ses.blocksOf g ≤ (ses.gen g).rank) : (ses.finalize g).Ok p := by
  have hrank := Nat.le_antisymm (h.2.2 g hg).1.1 hr
  refine h.setGen g _ ?_ fun _ => rfl
  dsimp only
  rw [hrank]
  exact Gen.ok_identity _ true

/-! ### The parts of the invariant that a command's answer keeps -/

/-- STORE of a packet for an incomplete generation keeps R44, and writes in the slot of row rank[g] only. -/
theorem storePacket_session_and_blk (s : State) (ses : Session) (g : Nat) (hp : s.params.gfPoly ∈ Config.legalPolys)
    (hblk : s.blk.Fits s.params.maxBuffer) (active : s.session = some ses) (hok : ses.Ok s.params)
    (hg : g < ses.numGenerations) (incomplete : (ses.gen g).rank ≠ ses.blocksOf g) :
    (storePacket ses g s).SessionOk ∧ (storePacket ses g s).blk.Fits s.params.maxBuffer := by
  have ⟨hv, _, hgens⟩ := hok
  obtain ⟨hgen, hencoder⟩ := hgens g hg
  have hr := Nat.lt_of_le_of_ne hgen.1 incomplete
  have hraw : (s.blkWithPacket ses g).Fits s.params.maxBuffer :=
    writeBlk_fits _ ses g hg hv _ _ _ hblk hr (s.packet_sized ses g).block
  obtain hreject | ⟨hpivot, haccept⟩ := storePacket_cases s ses g hp hblk.1 hgen hr
  · rw [hreject]
    exact ⟨fun ses' hses => Option.some.inj (active.symm.trans hses) ▸ hok, hraw⟩
  · rw [haccept]
    have hsized := s.reducedPacket_sized ses g hgen
    have haccepted := hgen.accept hr _ hsized.row (s.reducedPacket_cleared ses g hp hgen) hpivot
    exact ⟨fun ses' hses => Option.some.inj hses ▸ Session.Ok.setGen hok g _ haccepted hencoder,
      writeBlk_fits _ ses g hg hv _ _ _ hraw hr hsized.block⟩

/-- The invariant but for BUSY, with no command in flight yet: where a command begins or a flush continues. -/
structure State.Ready (s : State) : Prop where
  legal : s.params.Legal
  memories : s.MemoriesOk
  registers : s.RegistersOk
  idle : s.activity = .idle
  noRequest : s.status.flushReq = false
  session : s.SessionOk

theorem Err.code_le (e : Err) : e.code.toNat ≤ 5 := by
  cases e <;> decide

theorem queryFlags_lt (ses : Session) (g : Nat) : (ses.queryFlags g).toNat < 4 := by
  unfold Session.queryFlags
  cases (ses.gen g).decoded <;> cases ses.complete g <;> decide

namespace CommandEffect

variable {s t : State} {i : Instr} (h : CommandEffect s i t)
include h

theorem params_eq : t.params = s.params := by
  cases h <;> rfl

theorem registersOk (hs : s.RegistersOk) : t.RegistersOk := by
  obtain ⟨hctrl, hresult, hflags, herr⟩ := hs
  cases h with
  | raised _ e => exact ⟨hctrl, hresult, hflags, e.code_le⟩
  | scalar _ r =>
    refine ⟨hctrl, ?_, hflags, Nat.zero_le 5⟩
    rw [State.finish_result, State.setResult_result, BitVec.toNat_setWidth_of_le (by decide)]
    exact r.isLt
  | hung => exact ⟨hctrl, hresult, hflags, herr⟩
  | requested => exact ⟨hctrl, hresult, hflags, herr⟩
  | queried ses g => exact ⟨hctrl, hresult, queryFlags_lt ses g, Nat.zero_le 5⟩
  | _ => exact ⟨hctrl, hresult, hflags, Nat.zero_le 5⟩

/-- A command that has answered is complete, hangs on its draws, or waits on a decoded generation. -/
theorem flightOk (hidle : s.activity = .idle) (hreq : s.status.flushReq = false) : t.flightOk = true := by
  cases h with
  | hung => simp [State.flightOk, hreq]
  | requested _ ses f _ active inRange isDecoded =>
    simp [State.flightOk, State.flushTargetOk, active, inRange, isDecoded]
  | _ => simp [State.flightOk, finishDecoding_eq, State.clearSticky, hidle, hreq]

/-- The session and BLK a command leaves: only CFG_*, STORE and DECODE_* write the session. -/
theorem session_and_blk (hs : s.Ready) : t.SessionOk ∧ t.blk.Fits s.params.maxBuffer := by
  obtain ⟨hlegal, ⟨hblk, -⟩, -, -, -, hsession⟩ := hs
  cases h with
  | vector _ m _ fits => exact ⟨hsession, fits hblk⟩
  | configured _ mode _ valid lo hi =>
    refine ⟨fun ses hses => ?_, Memory.zeroFill_wf _ _ _ hblk.1, Memory.zeroFill_within _ _ _ _ hblk.2⟩
    obtain rfl := Option.some.inj hses
    exact Session.create_ok _ mode _ _ _ valid
  | stored ses ses' m b active inRange incomplete outcome =>
    exact outcome ▸ storePacket_session_and_blk s ses _ hlegal.1 hblk active (hsession ses active) inRange incomplete
  | decoded _ ses gs _ active =>
    obtain ⟨hok, hfits⟩ := foldl_decodeNext_induction s.params.gfPoly
      (fun ses' m => ses'.Ok s.params ∧ m.Fits s.params.maxBuffer)
      (fun ses' m g h hg hr => ⟨h.1.finalize g hg hr, backSubstitute_fits _ ses' g hg h.1.1 _ m h.2⟩)
      gs { ok := true, session := ses, blk := s.blk } ⟨hsession ses active, hblk⟩
    exact ⟨fun ses' hses => Option.some.inj hses ▸ hok, hfits⟩
  | _ => exact ⟨hsession, hblk⟩

/-- Only ENCODE writes the staging buffers, a block and a row of coefficients of a valid session. -/
theorem staging (hmem : s.MemoriesOk) (hsession : s.SessionOk) :
    t.dstg.Fits s.params.maxBlockSize ∧ t.cstg.Fits s.params.maxGenBlocks := by
  obtain ⟨-, hdstg, hcstg⟩ := hmem
  cases h with
  | encoded ses g n bs c data coeffs active inRange dataFits coeffsFit =>
    obtain ⟨hv, -⟩ := hsession ses active
    obtain ⟨-, -, -, hbs, -⟩ := (validConfig_iff ..).1 hv
    have hn := blocksOf_le s.params ses g hv
    exact ⟨Memory.writeBytes_fits hdstg 0 data (by omega), Memory.writeBytes_fits hcstg 0 coeffs (by omega)⟩
  | _ => exact ⟨hdstg, hcstg⟩

/-- From where a command begins, its answer meets the invariant. -/
theorem inv (hs : s.Ready) : t.params = s.params ∧ t.Inv := by
  have hparams := h.params_eq
  obtain ⟨hsession, hblk⟩ := h.session_and_blk hs
  obtain ⟨hdstg, hcstg⟩ := h.staging hs.memories hs.session
  refine ⟨hparams, ?_, ?_, h.registersOk hs.registers, h.flightOk hs.idle hs.noRequest, hsession⟩
  · exact hparams ▸ hs.legal
  · rw [State.MemoriesOk, hparams]
    exact ⟨hblk, hdstg, hcstg⟩

end CommandEffect

/-! ### The moves of the agents -/

/-- With BUSY = 0 no command is in flight and no request is pending (R314). -/
theorem idle_of_not_busy (s : State) (hflight : s.flightOk = true) (hb : s.status.busy = false) :
    s.activity = .idle ∧ s.status.flushReq = false := by
  cases ha : s.activity with
  | idle => simpa [State.flightOk, ha, hb] using hflight
  | _ => simp [State.flightOk, ha, hb] at hflight

section
variable {s t : State} (hs : s.Inv)
include hs

/-- A command word issued is dropped, or runs from a state where a command begins (R111). -/
theorem issue_inv (w : Word) (h : issue w s = .next t) : t.params = s.params ∧ t.Inv := by
  obtain ⟨hlegal, hmem, hregs, hflight, hsession⟩ := hs
  cases hb : s.status.busy with
  | true =>
    rw [issue_busy w s hb] at h
    obtain rfl := Host.Outcome.next.inj h
    exact ⟨rfl, hlegal, hmem, hregs, hflight, hsession⟩
  | false =>
    obtain ⟨hidle, hreq⟩ := idle_of_not_busy s hflight hb
    have hready : (s.accept w).Ready := ⟨hlegal, hmem, hregs, hidle, hreq, hsession⟩
    rw [issue_idle w s hb] at h
    cases hd : decode w with
    | ok i =>
      rw [execute_ok w i _ hd] at h
      exact (exec_effect i _ t h).inv hready
    | error e =>
      rw [execute_error w e _ hd] at h
      obtain rfl := Host.Outcome.next.inj h
      exact (CommandEffect.raised .nop .illegalCmd).inv hready

/-- An acknowledgement turns the wait on a request into an answered one (R315). -/
theorem acknowledge_inv (v : Word) : (acknowledge v s).params = s.params ∧ (acknowledge v s).Inv := by
  obtain ⟨hlegal, hmem, hregs, hflight, hsession⟩ := hs
  unfold acknowledge
  cases hreq : s.status.flushReq with
  | false => exact ⟨rfl, hlegal, hmem, hregs, hflight, hsession⟩
  | true =>
    cases ha : s.activity with
    | flushWait f =>
      refine ⟨rfl, hlegal, hmem, hregs, ?_, hsession⟩
      simp only [State.flightOk, ha, Bool.and_eq_true] at hflight
      obtain ⟨⟨hbusy, -⟩, htarget⟩ := hflight
      simp only [State.flightOk, hbusy]
      exact htarget
    | idle => simp [State.flightOk, ha, hreq] at hflight
    | flushAcked f v => simp [State.flightOk, ha, hreq] at hflight
    | drawWait => simp [State.flightOk, ha, hreq] at hflight

/-- The core's own step continues an answered flush from a state where a command begins (R381). -/
theorem coreStep_inv : (coreStep s).params = s.params ∧ (coreStep s).Inv := by
  obtain ⟨hlegal, hmem, hregs, hflight, hsession⟩ := hs
  unfold coreStep
  cases ha : s.activity with
  | flushAcked f v =>
    have hreq : s.status.flushReq = false := by
      simp only [State.flightOk, ha, Bool.and_eq_true, Bool.not_eq_true'] at hflight
      exact hflight.1.2
    have hready : State.Ready { s with activity := .idle } := ⟨hlegal, hmem, hregs, rfl, hreq, hsession⟩
    have hready' : State.Ready { s with activity := .idle, ioCode := v } := ⟨hlegal, hmem, hregs, rfl, hreq, hsession⟩
    dsimp only [continueFlush]
    split
    · exact (CommandEffect.raised .flushAll .ioFail).inv hready'
    · cases f with
      | gen g => exact (CommandEffect.finished .flushGen true).inv hready
      | all g ok =>
        exact (withSession_effect _ .flushAll _ fun ses hses => flushFrom_effect _ ses _ _ _ hses).inv hready
  | idle => exact ⟨rfl, hlegal, hmem, hregs, hflight, hsession⟩
  | flushWait f => exact ⟨rfl, hlegal, hmem, hregs, hflight, hsession⟩
  | drawWait => exact ⟨rfl, hlegal, hmem, hregs, hflight, hsession⟩

omit hs in
/-- A legal access to a memory covers bytes of the memory only (R84). -/
theorem resolve_mem (p : Config.Params) (w : Width) (a : Nat) (sp : Space) (o : Nat)
    (h : resolve p w a = .ok (.mem sp o)) : o + w.bytes ≤ sp.size p := by
  unfold resolve at h
  split at h
  · exact nomatch h
  · split at h
    · cases w with
      | byte => exact nomatch h
      | word => dsimp only at h; split at h <;> exact nomatch h
    · cases hsp : spaceAt p a with
      | none => simp [hsp] at h
      | some sp' =>
        simp only [hsp] at h
        have hbase := List.find?_some (show List.find? _ _ = some sp' from hsp)
        simp only [decide_eq_true_eq] at hbase
        split at h
        · next hle =>
          obtain ⟨rfl, rfl⟩ : sp' = sp ∧ a - sp'.base = o := by simpa using h
          omega
        · exact nomatch h

/-- A register write that only stores its value reaches no field the invariant speaks of but CTRL (R32). -/
theorem storeReg_inv (r : Reg) (v : Word) : (s.storeReg r v).params = s.params ∧ (s.storeReg r v).Inv := by
  obtain ⟨hlegal, hmem, hregs, hflight, hsession⟩ := hs
  cases r with
  | ctrl =>
    obtain ⟨-, hregs⟩ := hregs
    refine ⟨rfl, hlegal, hmem, ⟨?_, hregs⟩, hflight, hsession⟩
    show v &&& ctrlMask &&& ~~~ctrlMask = 0
    rw [BitVec.and_assoc, BitVec.and_not_self]
    exact BitVec.and_zero
  | _ => exact ⟨rfl, hlegal, hmem, hregs, hflight, hsession⟩

theorem setSpace_inv (sp : Space) (m : Memory) (hm : m.Fits (sp.size s.params)) :
    (s.setSpace sp m).params = s.params ∧ (s.setSpace sp m).Inv := by
  obtain ⟨hlegal, ⟨hblk, hdstg, hcstg⟩, hregs, hflight, hsession⟩ := hs
  cases sp with
  | cstg => exact ⟨rfl, hlegal, ⟨hblk, hdstg, hm⟩, hregs, hflight, hsession⟩
  | dstg => exact ⟨rfl, hlegal, ⟨hblk, hm, hcstg⟩, hregs, hflight, hsession⟩
  | blk => exact ⟨rfl, hlegal, ⟨hm, hdstg, hcstg⟩, hregs, hflight, hsession⟩

theorem space_fits (sp : Space) : (s.space sp).Fits (sp.size s.params) := by
  obtain ⟨-, ⟨hblk, hdstg, hcstg⟩, -⟩ := hs
  cases sp with
  | cstg => exact hcstg
  | dstg => exact hdstg
  | blk => exact hblk

theorem hostWrite_inv (w : Width) (a : Nat) (v : Word) (h : hostWrite w a v s = .next t) :
    t.params = s.params ∧ t.Inv := by
  obtain ⟨e, -, he⟩ | ⟨-, he⟩ | ⟨-, he⟩ | ⟨target, hr, -, -, ⟨-, he⟩ | ⟨-, he⟩⟩ := hostWrite_cases w a v s
  · exact nomatch he.symm.trans h
  · exact issue_inv hs v (he.symm.trans h)
  · obtain rfl := Host.Outcome.next.inj (he.symm.trans h)
    exact acknowledge_inv hs v
  · exact nomatch he.symm.trans h
  · obtain rfl := Host.Outcome.next.inj (he.symm.trans h)
    cases target with
    | reg r => exact storeReg_inv hs r v
    | mem sp o =>
      have hsize := resolve_mem _ w a sp o hr
      obtain ⟨hwf, hwithin⟩ := space_fits hs sp
      cases w with
      | byte => exact setSpace_inv hs sp _ ⟨Memory.write_wf _ _ _ hwf, Memory.write_within _ _ _ _ hwithin hsize⟩
      | word =>
        exact setSpace_inv hs sp _ ⟨Memory.writeWord_wf _ _ _ hwf, Memory.writeWord_within _ _ _ _ hwithin hsize⟩

/-- What the host has still to do and what it has read is no matter of the invariant. -/
theorem setHost_inv (host : List HostStmt) (reads : List Word) : State.Inv { s with host := host, reads := reads } := hs

theorem hostRead_inv (w : Width) (a : Nat) (h : hostRead w a s = .next t) : t.params = s.params ∧ t.Inv := by
  unfold hostRead at h
  split at h
  · exact nomatch h
  · obtain rfl := Host.Outcome.next.inj h
    exact ⟨rfl, setHost_inv hs s.host _⟩

theorem hostStatement_inv (st : HostStmt) (h : hostStatement st s = .next t) : t.params = s.params ∧ t.Inv := by
  cases st with
  | w32 a v => exact hostWrite_inv hs _ _ _ h
  | w8 a v => exact hostWrite_inv hs _ _ _ h
  | r32 a => exact hostRead_inv hs _ _ h
  | r8 a => exact hostRead_inv hs _ _ h
  | wait =>
    obtain rfl := Host.Outcome.next.inj ((hostPoll_eq s).symm.trans h)
    exact ⟨rfl, setHost_inv hs _ _⟩

theorem hostMove_inv (h : hostMove s = .next t) : t.params = s.params ∧ t.Inv := by
  unfold hostMove at h
  split at h
  · obtain rfl := Host.Outcome.next.inj h
    exact ⟨rfl, hs⟩
  · next st rest _ =>
    exact hostStatement_inv (s := { s with host := rest }) (setHost_inv hs rest s.reads) st h

theorem providerMove_inv : (providerMove s).params = s.params ∧ (providerMove s).Inv := by
  unfold providerMove
  split
  · exact ⟨rfl, hs⟩
  · next v rest _ =>
    have hrest : State.Inv { s with provider := rest } := hs
    exact acknowledge_inv hrest v

/-- Whatever the memory contents, the state after a reset meets the invariant (R370). -/
theorem afterReset_inv (c : Contents) : (s.afterReset c).params = s.params ∧ (s.afterReset c).Inv := by
  obtain ⟨hlegal, -⟩ := hs
  have hregs : State.reset.RegistersOk := by decide
  exact ⟨rfl, hlegal, ⟨Memory.ofCells_ok _ _, Memory.ofCells_ok _ _, Memory.ofCells_ok _ _⟩, hregs, rfl,
    fun _ hses => nomatch hses⟩

/-- Every step keeps the parameters and the invariant. -/
theorem step_inv (h : step s = .next t) : t.params = s.params ∧ t.Inv := by
  have hpop : (popTurn s).Inv := hs
  cases hturn : nextTurn s with
  | host => exact hostMove_inv (s := popTurn s) hpop ((step_host s hturn).symm.trans h)
  | provider =>
    obtain rfl := Host.Outcome.next.inj ((step_provider s hturn).symm.trans h)
    exact providerMove_inv hpop
  | core =>
    obtain rfl := Host.Outcome.next.inj ((step_core s hturn).symm.trans h)
    exact coreStep_inv hpop
  | reset c =>
    obtain rfl := Host.Outcome.next.inj ((step_reset s c hturn).symm.trans h)
    exact afterReset_inv hpop c

end

/-- Settles O59: the invariant is kept by each agent's move. -/
theorem stepKeepsTheInvariant : Obligations.StepKeepsTheInvariant :=
  fun _ _ hs h => (step_inv hs h).2

/-- Settles O58: the parts of the invariant that are not the session's, and the parameters. -/
theorem stepKeepsMemoriesRegistersAndFlight : Obligations.StepKeepsMemoriesRegistersAndFlight := by
  intro s t hs h
  obtain ⟨hparams, -, hmem, hregs, hflight, -⟩ := step_inv hs h
  exact ⟨hparams, hmem, hregs, hflight⟩

end Sys2Proof.Machine
end

section
/-! SUPPORT. What the registers read as (R31-R39, R46-R48), and that a read-write register reads back what
is written. -/

namespace Sys2Proof.Machine

/-! ### Writes of registers -/

/-- With BUSY = 0 a 32-bit write to a register that does not act stores its value (R88). -/
theorem hostWrite_reg (v : Word) (s : State) (r : Reg) (hbusy : s.status.busy = false) (hcmd : r ≠ .cmd)
    (hack : r ≠ .flushAck) : hostWrite .word r.offset v s = .next (s.storeReg r v) := by
  obtain ⟨e, hr, -⟩ | ⟨hr, -⟩ | ⟨hr, -⟩ | ⟨target, hr, -, -, ⟨hb, -⟩ | ⟨-, h⟩⟩ := hostWrite_cases .word r.offset v s <;>
    rw [resolve_reg] at hr
  · exact nomatch hr
  · exact absurd (Target.reg.inj (Except.ok.inj hr)) hcmd
  · exact absurd (Target.reg.inj (Except.ok.inj hr)) hack
  · exact absurd (hbusy.symm.trans hb) Bool.false_ne_true
  · obtain rfl := Except.ok.inj hr
    exact h

theorem readReg_storeReg_same (v : Word) (s : State) (r : Reg) (hrw : r.access = .RW) (hcmd : r ≠ .cmd) :
    (s.storeReg r v).readReg r = if r = .ctrl then v &&& 1 else v := by
  cases r with
  | cmd => exact absurd rfl hcmd
  | ctrl | arg0 | arg1 | arg2 | cfgBlockSize | cfgBlocksPerGen | cfgDataLength | pktGen | pktNumBlocks
  | pktBlockSize => rfl
  | _ => exact nomatch hrw

theorem readReg_storeReg_other (v : Word) (s : State) (r r' : Reg) (h : r' ≠ r) :
    (s.storeReg r v).readReg r' = s.readReg r' := by
  cases r with
  | ctrl | arg0 | arg1 | arg2 | cfgBlockSize | cfgBlocksPerGen | cfgDataLength | pktGen | pktNumBlocks | pktBlockSize =>
    cases r' <;> try rfl
    exact absurd rfl h
  | _ => rfl

theorem storeReg_frame (v : Word) (s : State) (r : Reg) : (s.storeReg r v).blk = s.blk ∧
    (s.storeReg r v).dstg = s.dstg ∧ (s.storeReg r v).cstg = s.cstg ∧ (s.storeReg r v).session = s.session ∧
    (s.storeReg r v).activity = s.activity := by
  cases r <;> exact ⟨rfl, rfl, rfl, rfl, rfl⟩

/-! ### The flag words bit by bit -/

/-- STATUS at the bits of its flags, and at bits 2 and 3, which no field names (R33). -/
theorem status_flag_bits (t : Status) :
    (t.toWord.getLsbD 0 = t.busy ∧ t.toWord.getLsbD 1 = t.result ∧ t.toWord.getLsbD 8 = t.errAny ∧
      t.toWord.getLsbD 9 = t.ovr ∧ t.toWord.getLsbD 10 = t.flushReq) ∧
    t.toWord.getLsbD 2 = false ∧ t.toWord.getLsbD 3 = false := by
  simp only [Status.toWord, BitVec.getLsbD_append]
  simp

theorem status_err_bits (t : Status) : t.toWord.extractLsb' 4 4 = t.err := by
  ext i hi
  rw [BitVec.getElem_extractLsb', Status.toWord]
  simp only [BitVec.getLsbD_append]
  rw [if_neg (by omega), if_neg (by omega), if_neg (by omega), if_pos (by omega),
    show 4 + i - 1 - 1 - 2 = i by omega, BitVec.getLsbD_eq_getElem hi]

theorem status_high_bits (t : Status) (k : Nat) (hk : 11 ≤ k) : t.toWord.getLsbD k = false := by
  rw [Status.toWord]
  repeat rw [BitVec.getLsbD_append, if_neg (by omega)]
  exact BitVec.getLsbD_zero

/-- SESSION at the bits of its fields (R38). -/
theorem session_flag_bits (ses : Session) :
    ses.toWord.getLsbD 0 = true ∧ ses.toWord.getLsbD 1 = (ses.mode == .encoder) ∧
    ses.toWord.getLsbD 2 = ses.partialLastBlock ∧ ses.toWord.getLsbD 3 = ses.partialLastGen ∧
    ses.toWord.getLsbD 4 = ses.canDecode ∧ ses.toWord.getLsbD 5 = ses.allDecoded := by
  simp only [Session.toWord, BitVec.getLsbD_append]
  simp

theorem session_high_bits (ses : Session) (k : Nat) (hk : 6 ≤ k) : ses.toWord.getLsbD k = false := by
  rw [Session.toWord]
  repeat rw [BitVec.getLsbD_append, if_neg (by omega)]
  exact BitVec.getLsbD_zero

theorem canDecode_iff (ses : Session) :
    ses.canDecode = true ↔ ∀ g < ses.numGenerations, (ses.gen g).rank = ses.blocksOf g := by
  have hall := List.countP_eq_length (l := List.range ses.numGenerations) (p := ses.complete)
  rw [List.length_range] at hall
  simp only [Session.canDecode, Session.gensCompleted, beq_iff_eq, hall, List.mem_range, Session.complete]

theorem allDecoded_iff (ses : Session) :
    ses.allDecoded = true ↔ ∀ g < ses.numGenerations, (ses.gen g).decoded = true := by
  simp only [Session.allDecoded, List.all_eq_true, List.mem_range]

theorem capGfWord_toNat (p : Config.Params) : (capGfWord p).toNat = 0x00030000 + p.gfPoly.toNat := by
  rw [capGfWord, BitVec.toNat_append, ← Nat.shiftLeft_add_eq_or_of_lt p.gfPoly.isLt]
  rfl

/-! ### Registers that hold a number -/

theorem toNat_sessionNat (s : State) (ses : Session) (f : Session → Nat) (hs : s.session = some ses)
    (h : f ses < 2 ^ 32) : (s.sessionNat f).toNat = f ses := by
  simp only [State.sessionNat, State.sessionView, hs, BitVec.toNat_ofNat]
  exact Nat.mod_eq_of_lt h

/-- Without a session the session registers read 0 (R38, R39). -/
theorem readReg_session_none (s : State) (hs : s.session = none) (r : Reg) (hlo : 0x050 ≤ r.offset)
    (hhi : r.offset ≤ 0x070) : s.readReg r = 0 := by
  cases r with
  | session | blockSize | blocksPerGen | dataLength | numBlocks | numGenerations | bufferSize | gensCompleted
  | lastGenBlocks => simp only [State.readReg, State.sessionNat, State.sessionView, hs]
  | _ => simp only [Reg.offset] at hlo hhi; omega

/-- The numbers of a valid session fit the registers that show them (R39). -/
theorem session_numbers_fit (p : Config.Params) (ses : Session) (hlegal : p.Legal)
    (hv : validConfig p ses.blockSize ses.blocksPerGen ses.dataLength = true) :
    ses.blockSize < 2 ^ 32 ∧ ses.blocksPerGen < 2 ^ 32 ∧ ses.dataLength < 2 ^ 32 ∧ ses.numBlocks < 2 ^ 32 ∧
    ses.numGenerations < 2 ^ 32 ∧ ses.bufferSize < 2 ^ 32 ∧ ses.gensCompleted < 2 ^ 32 ∧
    ∀ g, ses.blocksOf g < 2 ^ 32 := by
  have hblocks := fun g => blocksOf_le p ses g hv
  obtain ⟨-, ⟨-, hmaxBlock⟩, ⟨-, hmaxGen⟩, ⟨-, hmaxGens⟩, -, hmaxBuffer⟩ := hlegal
  obtain ⟨hbs, hbpg, hlen, hbsMax, hbpgMax, hbuffer, hgens⟩ := (validConfig_iff ..).1 hv
  obtain ⟨-, hdata, -⟩ := Partition.numBlocksOf_bounds ses.blockSize ses.dataLength (Nat.pos_of_ne_zero hbs)
    (Nat.pos_of_ne_zero hlen)
  have hnumBlocks : ses.numBlocks ≤ ses.bufferSize := Nat.le_mul_of_pos_right _ (Nat.pos_of_ne_zero hbs)
  have hcompleted : ses.gensCompleted ≤ ses.numGenerations := by
    simpa [Session.gensCompleted] using List.countP_le_length (l := List.range ses.numGenerations) (p := ses.complete)
  simp only [Session.numGenerations, Session.bufferSize, Session.gensCompleted, bufferSizeOf] at *
  refine ⟨by omega, by omega, by omega, by omega, by omega, by omega, by omega, fun g => ?_⟩
  have := hblocks g
  omega

/-- The identification and capability registers read their constants and parameters (R31). -/
theorem readReg_capabilities (s : State) (h : s.params.Legal) :
    s.readReg .id = 0x424C4B59 ∧ s.readReg .version = 7 ∧
    (s.readReg .capMaxBlockSize).toNat = s.params.maxBlockSize ∧
    (s.readReg .capMaxGenBlocks).toNat = s.params.maxGenBlocks ∧
    (s.readReg .capMaxGenerations).toNat = s.params.maxGenerations ∧
    (s.readReg .capMaxBuffer).toNat = s.params.maxBuffer ∧
    (s.readReg .capGf).toNat = 0x00030000 + s.params.gfPoly.toNat := by
  obtain ⟨-, ⟨-, hmaxBlock⟩, ⟨-, hmaxGen⟩, ⟨-, hmaxGens⟩, -, hmaxBuffer⟩ := h
  refine ⟨rfl, rfl, ?_, ?_, ?_, ?_, capGfWord_toNat s.params⟩ <;>
    exact (BitVec.toNat_ofNat _ _).trans (Nat.mod_eq_of_lt (by omega))

/-- Settles O53: a stored value is in the field its register reads; the flag words are taken bit by bit, and the numbers
of a valid session are below 2^32. -/
theorem readWriteRegistersReadBack : Obligations.ReadWriteRegistersReadBack := by
  refine ⟨fun v s r hbusy hrw hcmd => ?_, fun s => ?_, fun s ses hs => ?_, fun s ses nb ng hs hlegal hv hnb hng => ?_⟩
  · have hack : r ≠ .flushAck := by
      rintro rfl
      exact nomatch hrw
    exact ⟨_, hostWrite_reg v s r hbusy hcmd hack, readReg_storeReg_same v s r hrw hcmd,
      fun r' hr' => readReg_storeReg_other v s r r' hr', storeReg_frame v s r⟩
  · obtain ⟨⟨h0, h1, h8, h9, h10⟩, h2, h3⟩ := status_flag_bits s.status
    have hrest : ∀ k, (k = 2 ∨ k = 3 ∨ 11 ≤ k) → s.status.toWord.getLsbD k = false := by
      rintro k (rfl | rfl | hk)
      · exact h2
      · exact h3
      · exact status_high_bits s.status k hk
    exact ⟨⟨h0, h1, status_err_bits s.status, h8, h9, h10, hrest⟩, ⟨rfl, rfl, rfl, rfl⟩, ⟨rfl, rfl, rfl, rfl, rfl, rfl⟩,
      ⟨rfl, rfl, rfl⟩,
      ⟨rfl, rfl, rfl, rfl⟩, ⟨rfl, rfl, rfl, rfl, rfl⟩, readReg_capabilities s, readReg_session_none s⟩
  · have hread : s.readReg .session = ses.toWord := by
      simp only [State.readReg, State.sessionView, hs]
    obtain ⟨h0, h1, h2, h3, h4, h5⟩ := session_flag_bits ses
    rw [hread, h1, h2, h3, h4, h5]
    exact ⟨h0, beq_iff_eq, bne_iff_ne, bne_iff_ne, canDecode_iff ses, allDecoded_iff ses, session_high_bits ses⟩
  · obtain ⟨h1, h2, h3, h4, h5, h6, h7, h8⟩ := session_numbers_fit s.params ses hlegal hv
    have hnb' : nb = ses.numBlocks := hnb
    have hng' : ng = ses.numGenerations := by rw [hng, hnb]; rfl
    subst hnb' hng'
    refine ⟨toNat_sessionNat s ses _ hs h1, toNat_sessionNat s ses _ hs h2, toNat_sessionNat s ses _ hs h3,
      toNat_sessionNat s ses _ hs h4, toNat_sessionNat s ses _ hs h5, toNat_sessionNat s ses _ hs h6,
      (toNat_sessionNat s ses _ hs h7).trans ?_, (toNat_sessionNat s ses _ hs (h8 _)).trans ?_⟩
    · exact List.countP_eq_length_filter
    · exact if_neg (show ¬ ses.numGenerations - 1 + 1 < ses.numGenerations by omega)

end Sys2Proof.Machine
end

section
/-! SUPPORT. Proofs of the statements on host accesses (spec/20_memory.md): which are legal and what they reach (R81, R84),
what a legal one does (R88, R31), and the byte order of 32-bit accesses (R85). -/

namespace Sys2Proof.Machine

/-! ### The address map -/

/-- The registers stand at distinct offsets (R31). -/
theorem ofOffset_eq_some_iff (a : Nat) (r : Reg) : Reg.ofOffset a = some r ↔ r.offset = a := by
  constructor
  · intro h
    exact beq_iff_eq.1 (List.find?_some (p := fun r : Reg => r.offset == a) h)
  · rintro rfl
    exact ofOffset_offset r

theorem Space.forall_iff (q : Space → Prop) : (∀ sp, q sp) ↔ q .cstg ∧ q .dstg ∧ q .blk :=
  ⟨fun h => ⟨h _, h _, h _⟩, fun ⟨hcstg, hdstg, hblk⟩ sp => by cases sp <;> assumption⟩

/-- The ranges are looked through by rising base, so a memory answers for the addresses of its range that lie beyond every
range before it (R81); nothing is assumed of the sizes. -/
theorem spaceAt_eq_some_iff (p : Config.Params) (a : Nat) (sp : Space) : spaceAt p a = some sp ↔
    (sp.base ≤ a ∧ a < sp.base + sp.size p) ∧ ∀ sp' : Space, sp'.base < sp.base → sp'.base + sp'.size p ≤ a := by
  simp only [spaceAt, List.find?_cons_eq_some, List.find?_nil, Space.forall_iff, Bool.not_eq_true', decide_eq_true_eq,
    decide_eq_false_iff_not]
  cases sp <;> simp [Space.base] <;> omega

/-- An access to the register window is legal where it is an aligned 32-bit one to a register (R83, R84). -/
theorem resolve_window (p : Config.Params) (w : Width) (a : Nat) (t : Target) (h : a < windowSize) :
    resolve p w a = .ok t ↔ w = .word ∧ a % 4 = 0 ∧ ∃ r : Reg, r.offset = a ∧ t = .reg r := by
  simp only [← ofOffset_eq_some_iff]
  unfold resolve
  rw [if_pos h]
  cases w with
  | byte => simp
  | word =>
    by_cases halign : a % 4 = 0
    · cases Reg.ofOffset a <;> simp [halign, eq_comm]
    · simp [halign]

/-- An access beyond the register window is legal where it is aligned and its bytes lie in one memory (R84). -/
theorem resolve_beyond_window (p : Config.Params) (w : Width) (a : Nat) (t : Target) (h : windowSize ≤ a) :
    resolve p w a = .ok t ↔ ¬ (w = .word ∧ a % 4 ≠ 0) ∧
      ∃ sp, spaceAt p a = some sp ∧ a + w.bytes ≤ sp.base + sp.size p ∧ t = .mem sp (a - sp.base) := by
  unfold resolve
  rw [if_neg (Nat.not_lt.2 h)]
  by_cases halign : w = .word ∧ a % 4 ≠ 0
  · simp [halign]
  · rw [if_neg halign, and_iff_right halign]
    cases spaceAt p a with
    | none => simp
    | some sp => by_cases hle : a + w.bytes ≤ sp.base + sp.size p <;> simp [hle, eq_comm]

/-- A legal access to a memory lies beyond the register window, and its bytes lie in the memory that holds the address. -/
theorem resolve_mem_iff (p : Config.Params) (w : Width) (a : Nat) (sp : Space) (o : Nat) :
    resolve p w a = .ok (.mem sp o) ↔ windowSize ≤ a ∧ ¬ (w = .word ∧ a % 4 ≠ 0) ∧
      spaceAt p a = some sp ∧ a + w.bytes ≤ sp.base + sp.size p ∧ o = a - sp.base := by
  by_cases h : windowSize ≤ a
  · rw [resolve_beyond_window p w a _ h]
    simp only [Target.mem.injEq]
    constructor
    · rintro ⟨halign, _, hsp, hle, rfl, rfl⟩
      exact ⟨h, halign, hsp, hle, rfl⟩
    · rintro ⟨-, halign, hsp, hle, rfl⟩
      exact ⟨halign, sp, hsp, hle, rfl, rfl⟩
  · rw [resolve_window p w a _ (Nat.lt_of_not_le h)]
    simp [h]

/-- Each byte of a legal 32-bit access to a memory can be accessed alone, at the offset after (R83, R84). -/
theorem resolve_byte_of_word (p : Config.Params) (a k : Nat) (sp : Space) (o : Nat)
    (h : resolve p .word a = .ok (.mem sp o)) (hk : k < 4) : resolve p .byte (a + k) = .ok (.mem sp (o + k)) := by
  obtain ⟨hwindow, -, hsp, hle, rfl⟩ := (resolve_mem_iff ..).1 h
  obtain ⟨⟨hbase, -⟩, hbefore⟩ := (spaceAt_eq_some_iff ..).1 hsp
  simp only [Width.bytes] at hle
  refine (resolve_mem_iff ..).2 ⟨by omega, by simp, (spaceAt_eq_some_iff ..).2 ⟨by omega, ?_⟩, ?_, by omega⟩
  · exact fun sp' hsp' => Nat.le_add_right_of_le (hbefore sp' hsp')
  · simp only [Width.bytes]
    omega

/-- With sizes in the ranges of R9, each host range ends before the next one begins (R81). -/
theorem range_end_le_base (p : Config.Params) (hp : p.Legal) (sp sp' : Space) (h : sp'.base < sp.base) :
    sp'.base + sp'.size p ≤ sp.base := by
  obtain ⟨-, ⟨-, hdstg⟩, ⟨-, hcstg⟩, -, -, -⟩ := hp
  cases sp <;> cases sp' <;> simp only [Space.base, Space.size] at h ⊢ <;> omega

theorem spaceAt_of_legal (p : Config.Params) (hp : p.Legal) (a : Nat) (sp : Space) (hbase : sp.base ≤ a)
    (hend : a < sp.base + sp.size p) : spaceAt p a = some sp :=
  (spaceAt_eq_some_iff ..).2 ⟨⟨hbase, hend⟩, fun sp' h => Nat.le_trans (range_end_le_base p hp sp sp' h) hbase⟩

theorem Width.bytes_pos (w : Width) : 0 < w.bytes := by
  cases w <;> decide

theorem Width.bytes_le_four (w : Width) : w.bytes ≤ 4 := by
  cases w <;> decide

/-- The accesses that are legal under legal parameters (R81, R83, R84). -/
theorem exists_resolve_ok_iff (p : Config.Params) (hp : p.Legal) (w : Width) (a : Nat) :
    (∃ t, resolve p w a = .ok t) ↔ ¬ (w = .word ∧ a % 4 ≠ 0) ∧
      ((w = .word ∧ a < windowSize ∧ ∃ r : Reg, r.offset = a) ∨
        (windowSize ≤ a ∧ ∃ sp : Space, sp.base ≤ a ∧ a + w.bytes ≤ sp.base + sp.size p)) := by
  by_cases h : windowSize ≤ a
  · simp only [resolve_beyond_window p w a _ h]
    constructor
    · rintro ⟨_, halign, sp, hsp, hle, -⟩
      obtain ⟨⟨hbase, -⟩, -⟩ := (spaceAt_eq_some_iff ..).1 hsp
      exact ⟨halign, .inr ⟨h, sp, hbase, hle⟩⟩
    · rintro ⟨halign, ⟨-, hlt, -⟩ | ⟨-, sp, hbase, hle⟩⟩
      · exact absurd h (Nat.not_le.2 hlt)
      · have hend : a < sp.base + sp.size p := Nat.lt_of_lt_of_le (Nat.lt_add_of_pos_right w.bytes_pos) hle
        exact ⟨_, halign, sp, spaceAt_of_legal p hp a sp hbase hend, hle, rfl⟩
  · have hlt := Nat.lt_of_not_le h
    simp only [resolve_window p w a _ hlt]
    constructor
    · rintro ⟨_, hw, halign, r, hr, -⟩
      exact ⟨fun hnot => hnot.2 halign, .inl ⟨hw, hlt, r, hr⟩⟩
    · rintro ⟨halign, ⟨hw, -, r, hr⟩ | ⟨hle, -⟩⟩
      · exact ⟨_, hw, by_contra fun hmod => halign ⟨hw, hmod⟩, r, hr, rfl⟩
      · exact absurd hle h

/-! ### Bus errors -/

theorem exists_resolve_error_iff (p : Config.Params) (w : Width) (a : Nat) :
    (∃ e, resolve p w a = .error e) ↔ ¬ ∃ t, resolve p w a = .ok t := by
  cases resolve p w a <;> simp

theorem hostRead_error (w : Width) (a : Nat) (s : State) (e : BusError) (h : resolve s.params w a = .error e) :
    hostRead w a s = .fault (.busError e) := by
  unfold hostRead
  rw [h]

theorem hostWrite_error (w : Width) (a : Nat) (v : Word) (s : State) (e : BusError)
    (h : resolve s.params w a = .error e) : hostWrite w a v s = .fault (.busError e) := by
  unfold hostWrite
  rw [h]

/-- Settles O51: an access is an error where it is not a legal one; the two descriptions of legal accesses then differ
only in the memories being written out. -/
theorem busErrorsAreThoseOfTheAddressMap : Obligations.BusErrorsAreThoseOfTheAddressMap := by
  intro p w a hp
  refine ⟨?_, ?_⟩
  · rw [exists_resolve_error_iff, exists_resolve_ok_iff p hp, show windowSize = 0x1000 from rfl]
    simp only [not_and, not_or, not_exists, Space.forall_iff, Space.base, Space.size]
    cases w with
    | byte => grind
    | word => grind
  · rintro s v e rfl he
    exact ⟨hostRead_error w a s e he, hostWrite_error w a v s e he⟩

/-! ### What a legal access does -/

theorem hostRead_ok (w : Width) (a : Nat) (s : State) (t : Target) (h : resolve s.params w a = .ok t) :
    hostRead w a s = .next { s with reads := s.readTarget w t :: s.reads } := by
  unfold hostRead
  rw [h]

theorem hostWrite_mem (w : Width) (a : Nat) (v : Word) (s : State) (sp : Space) (o : Nat)
    (hbusy : s.status.busy = false) (h : resolve s.params w a = .ok (.mem sp o)) :
    hostWrite w a v s = .next (s.writeTarget w v (.mem sp o)) := by
  unfold hostWrite
  rw [h]
  exact if_neg (by simp [hbusy])

/-- The bytes a write of `v` stores, in address order: the low byte, or the four lanes (R83, R85). -/
def Width.lanes (w : Width) (v : Word) : List Byte := (wordBytes v).take w.bytes

@[simp] theorem Width.length_lanes (w : Width) (v : Word) : (w.lanes v).length = w.bytes := by
  cases w <;> rfl

theorem Width.getElem_lanes (w : Width) (v : Word) (k : Nat) (hk : k < (w.lanes v).length) :
    (w.lanes v)[k] = v.extractLsb' (8 * k) 8 := by
  have hlt : k < 4 := Nat.lt_of_lt_of_le (w.length_lanes v ▸ hk) w.bytes_le_four
  simp only [Width.lanes, List.getElem_take]
  interval_cases k <;> rfl

/-- A write to a memory, of either width, writes its lanes as a run of bytes (R83, R85). -/
theorem writeTarget_mem (s : State) (w : Width) (v : Word) (sp : Space) (o : Nat) :
    s.writeTarget w v (.mem sp o) = s.setSpace sp ((s.space sp).writeBytes o (w.lanes v)) := by
  cases w with
  | byte =>
    have hlane : v.setWidth 8 = v.extractLsb' 0 8 := BitVec.setWidth_eq_extractLsb' (by decide)
    exact congrArg (fun b => s.setSpace sp ((s.space sp).write o b)) hlane
  | word => rfl

/-- A run of lanes written reads back lane by lane, in a memory in canonical form. -/
theorem Memory.read_writeBytes_lanes (m : Memory) (w : Width) (o : Nat) (v : Word) (hm : m.wf = true) (k : Nat)
    (hk : k < w.bytes) : (m.writeBytes o (w.lanes v)).read (o + k) = v.extractLsb' (8 * k) 8 := by
  rw [read_writeBytes_inside m o k _ hm (by simpa using hk), w.getElem_lanes]

theorem storeReg_readOnly (v : Word) (s : State) (r : Reg) (h : r.access = .RO) : s.storeReg r v = s := by
  cases r with
  | ctrl | arg0 | arg1 | arg2 | cfgBlockSize | cfgBlocksPerGen | cfgDataLength | pktGen | pktNumBlocks
  | pktBlockSize => exact nomatch h
  | _ => rfl

/-- Settles O52: a read adds to the record only, a write to a memory writes a run of lanes there, and storing to a
read-only register is the identity. -/
theorem plainHostAccessesHaveNoSideEffect : Obligations.PlainHostAccessesHaveNoSideEffect := by
  refine ⟨hostRead_ok, fun a s sp o h => hostRead_ok .byte a s _ h, fun s r => hostRead_reg r s,
    fun w a v s sp o hbusy h => ?_, fun v s r hbusy hro => ?_⟩
  · refine ⟨(s.space sp).writeBytes o (w.lanes v), ?_, fun b hb => ?_, fun hwf => ⟨?_, fun k hk => ?_⟩⟩
    · rw [hostWrite_mem w a v s sp o hbusy h, writeTarget_mem]
    · exact Memory.read_writeBytes_outside _ _ _ _ (by simpa using hb)
    · exact Memory.writeBytes_wf _ _ _ hwf
    · exact Memory.read_writeBytes_lanes _ w o v hwf k hk
  · have hcmd : r ≠ .cmd := by
      rintro rfl
      exact nomatch hro
    have hack : r ≠ .flushAck := by
      rintro rfl
      exact nomatch hro
    rw [hostWrite_reg v s r hbusy hcmd hack, storeReg_readOnly v s r hro]

/-! ### The byte order of words -/

/-- A word is given by its four lanes. -/
theorem Word.ext_lanes (x y : Word) (h : ∀ k < 4, x.extractLsb' (8 * k) 8 = y.extractLsb' (8 * k) 8) : x = y := by
  ext i hi
  have hbit := congrArg (fun b : Byte => b.getLsbD (i % 8)) (h (i / 8) (by omega))
  simpa [BitVec.getLsbD_extractLsb', Nat.mod_lt, Nat.div_add_mod, BitVec.getLsbD_eq_getElem hi] using hbit

namespace Memory

/-- A byte appended below is the low digit of the number in base 256. -/
theorem toNat_append_byte {n : Nat} (x : BitVec n) (b : Byte) : (x ++ b).toNat = 2 ^ 8 * x.toNat + b.toNat := by
  rw [BitVec.toNat_append, ← Nat.shiftLeft_add_eq_or_of_lt b.isLt, Nat.shiftLeft_eq, Nat.mul_comm]

/-- A word read is the number its bytes stand for, the first the least significant (R85). -/
theorem toNat_readWord (m : Memory) (o : Nat) : (m.readWord o).toNat =
    (m.read o).toNat + 2 ^ 8 * (m.read (o + 1)).toNat + 2 ^ 16 * (m.read (o + 2)).toNat
      + 2 ^ 24 * (m.read (o + 3)).toNat := by
  simp only [readWord, bytesWord, toNat_append_byte]
  omega

/-- The lanes of a word read are the bytes there. -/
theorem extractLsb'_readWord (m : Memory) (o k : Nat) (hk : k < 4) :
    (m.readWord o).extractLsb' (8 * k) 8 = m.read (o + k) := by
  have h0 := (m.read o).isLt
  have h1 := (m.read (o + 1)).isLt
  have h2 := (m.read (o + 2)).isLt
  have h3 := (m.read (o + 3)).isLt
  refine BitVec.eq_of_toNat_eq ?_
  rw [BitVec.extractLsb'_toNat, toNat_readWord, Nat.shiftRight_eq_div_pow]
  interval_cases k <;> simp only [Nat.reduceMul, Nat.add_zero] <;> omega

theorem read_writeWord_lane (m : Memory) (o : Nat) (v : Word) (hm : m.wf = true) (k : Nat) (hk : k < 4) :
    (m.writeWord o v).read (o + k) = v.extractLsb' (8 * k) 8 :=
  read_writeBytes_lanes m .word o v hm k hk

/-- A word written reads back (R85). -/
theorem readWord_writeWord (m : Memory) (o : Nat) (v : Word) (hm : m.wf = true) : (m.writeWord o v).readWord o = v :=
  Word.ext_lanes _ _ fun k hk => by rw [extractLsb'_readWord _ _ k hk, read_writeWord_lane m o v hm k hk]

end Memory

/-- Settles O54: lane by lane in the memory; at the host port a legal word access leaves its four bytes legal too. -/
theorem wordAccessesAreLittleEndian : Obligations.WordAccessesAreLittleEndian := by
  refine ⟨fun m o v hm => ?_, Memory.toNat_readWord, fun a o v s sp hbusy hm h => ?_, fun a o s sp h => ?_⟩
  · have hlane := Memory.read_writeWord_lane m o v hm
    exact ⟨hlane 0 (by decide), hlane 1 (by decide), hlane 2 (by decide), hlane 3 (by decide),
      Memory.readWord_writeWord m o v hm, Memory.writeWord_wf m o v hm⟩
  · refine ⟨s.setSpace sp ((s.space sp).writeWord o v), hostWrite_mem .word a v s sp o hbusy h, ?_, fun k hk => ?_⟩
    · rw [hostRead_ok .word a _ (.mem sp o) (by simpa using h)]
      simp only [State.readTarget, State.setSpace_space, Memory.readWord_writeWord _ o v hm]
    · rw [hostRead_ok .byte (a + k) _ (.mem sp (o + k)) (by simpa using resolve_byte_of_word _ a k sp o h hk)]
      simp only [State.readTarget, State.setSpace_space, Memory.read_writeWord_lane _ o v hm k hk]
  · exact ⟨(s.space sp).readWord o, hostRead_ok .word a s _ h, Memory.extractLsb'_readWord _ o⟩

end Sys2Proof.Machine
end

section
/-! SUPPORT. Proofs of the statements on spec/30_encoding.md: a word is its four bytes, the mask of a format says which
of them are 0, and the decoder answers the one command whose word it is given (R110-R118); then illegal words and command
issue (R111, R117, R341). -/

namespace Sys2Proof

/-! ### A word as four bytes -/

/-- The word with these bytes, the opcode first; `r` stands where every format has its "must be 0" bits 23:16. -/
def fieldsWord (op r a b : Byte) : Word := op ++ (r ++ a ++ b)

@[simp] theorem opField_fieldsWord (op r a b : Byte) : opField (fieldsWord op r a b) = op :=
  BitVec.extractLsb'_append_eq_left

@[simp] theorem extractLsb'_16_fieldsWord (op r a b : Byte) : (fieldsWord op r a b).extractLsb' 16 8 = r :=
  calc (op ++ (r ++ a ++ b)).extractLsb' 16 8
      = (r ++ a ++ b).extractLsb' 16 8 := BitVec.extractLsb'_append_eq_of_add_le (by decide)
    _ = (r ++ a).extractLsb' 8 8 := BitVec.extractLsb'_append_eq_of_le (by decide)
    _ = r := BitVec.extractLsb'_append_eq_left

@[simp] theorem aField_fieldsWord (op r a b : Byte) : aField (fieldsWord op r a b) = a :=
  calc (op ++ (r ++ a ++ b)).extractLsb' 8 8
      = (r ++ a ++ b).extractLsb' 8 8 := BitVec.extractLsb'_append_eq_of_add_le (by decide)
    _ = (r ++ a).extractLsb' 0 8 := BitVec.extractLsb'_append_eq_of_le (by decide)
    _ = a := BitVec.extractLsb'_append_eq_right

@[simp] theorem bField_fieldsWord (op r a b : Byte) : bField (fieldsWord op r a b) = b :=
  calc (op ++ (r ++ a ++ b)).extractLsb' 0 8
      = (r ++ a ++ b).extractLsb' 0 8 := BitVec.extractLsb'_append_eq_of_add_le (by decide)
    _ = b := BitVec.extractLsb'_append_eq_right

theorem fieldsWord_inj (op r a b op' r' a' b' : Byte) :
    fieldsWord op r a b = fieldsWord op' r' a' b' ↔ op = op' ∧ r = r' ∧ a = a' ∧ b = b' := by
  constructor
  · intro h
    exact ⟨by simpa using congrArg opField h, by simpa using congrArg (BitVec.extractLsb' 16 8) h,
      by simpa using congrArg aField h, by simpa using congrArg bField h⟩
  · rintro ⟨rfl, rfl, rfl, rfl⟩
    rfl

theorem toNat_shiftRight_24 (w : Word) : (w >>> 24).toNat = (opField w).toNat := by
  have := w.isLt
  rw [opField, BitVec.extractLsb'_toNat, BitVec.toNat_ushiftRight, Nat.shiftRight_eq_div_pow]
  omega

/-- Every word is made of its fields and bits 23:16. -/
theorem exists_eq_fieldsWord (w : Word) : ∃ op r a b, w = fieldsWord op r a b := by
  refine ⟨opField w, w.extractLsb' 16 8, aField w, bField w, Machine.Word.ext_lanes _ _ fun k hk => ?_⟩
  interval_cases k
  · exact (bField_fieldsWord _ _ _ _).symm
  · exact (aField_fieldsWord _ _ _ _).symm
  · exact (extractLsb'_16_fieldsWord _ _ _ _).symm
  · exact (opField_fieldsWord _ _ _ _).symm

theorem fieldsWord_and (op r a b op' r' a' b' : Byte) :
    fieldsWord op r a b &&& fieldsWord op' r' a' b' = fieldsWord (op &&& op') (r &&& r') (a &&& a') (b &&& b') :=
  BitVec.and_append.trans (by rw [BitVec.and_append, BitVec.and_append]; rfl)

/-! ### The formats -/

/-- The word of format `f` with `op` in bits 31:24, and with `a` in bits 15:8 and `b` in bits 7:0 where the format has
an operand byte there (R112-R114). -/
def Format.word (f : Format) (op a b : Byte) : Word :=
  match f with
  | .F => fieldsWord op 0 a b
  | .V => fieldsWord op 0 0 b
  | .N => fieldsWord op 0 0 0

/-- The "must be 0" bits of a format are clear where the word is the one the format makes of its fields (R117). -/
theorem and_reservedMask_eq_zero_iff (f : Format) (w : Word) :
    w &&& f.reservedMask = 0 ↔ f.word (opField w) (aField w) (bField w) = w := by
  obtain ⟨op, r, a, b, rfl⟩ := exists_eq_fieldsWord w
  have hclear (x y z : Byte) : fieldsWord op r a b &&& fieldsWord 0 x y z = fieldsWord 0 0 0 0 ↔
      r &&& x = 0 ∧ a &&& y = 0 ∧ b &&& z = 0 := by
    simp [fieldsWord_and, fieldsWord_inj]
  have hones (x : Byte) : x &&& 255#8 = x := BitVec.and_allOnes
  rw [opField_fieldsWord, aField_fieldsWord, bField_fieldsWord, eq_comm (a := f.word op a b)]
  cases f with
  | F => exact (hclear 0xFF 0 0).trans (by simp [Format.word, fieldsWord_inj, hones])
  | V => exact (hclear 0xFF 0xFF 0).trans (by simp [Format.word, fieldsWord_inj, hones])
  | N => exact (hclear 0xFF 0xFF 0xFF).trans (by simp [Format.word, fieldsWord_inj, hones])

/-! ### The opcode map -/

/-- A command selected has the opcode it is selected by, and its operand bits are laid out by its format, whatever byte
stands above them (R112-R116). -/
theorem selectCommand_some {op a b : Byte} {i : Instr} (h : selectCommand op a b = some i) :
    i.opcode = op ∧ ∀ hi : Byte, hi ++ i.operandBits = i.format.word hi a b := by
  unfold selectCommand at h
  split at h <;> cases h
  all_goals
    next hop => exact ⟨BitVec.eq_of_toNat_eq hop.symm, fun _ => rfl⟩

/-- Every command is selected by its opcode and the operand bytes its operand bits hold (R112-R116). -/
theorem exists_operands (i : Instr) : ∃ a b : Byte, selectCommand i.opcode a b = some i ∧
    ∀ hi : Byte, hi ++ i.operandBits = fieldsWord hi 0 a b := by
  cases i with
  | gfAdd a b | gfSub a b | gfMul a b | gfDiv a b => exact ⟨a, b, rfl, fun _ => rfl⟩
  | vScale c | vAdds c | vSubs c | vAddmul c | vSubmul c => exact ⟨0, c, rfl, fun _ => rfl⟩
  | _ => exact ⟨0, 0, rfl, fun _ => rfl⟩

/-- The format of an opcode is that of the command it selects, whatever the operand bytes (R116). -/
theorem formatOfOpcode_eq (op a b : Byte) : formatOfOpcode op = (selectCommand op a b).map Instr.format := by
  have hoperands : (selectCommand op a b).map Instr.format = (selectCommand op 0 0).map Instr.format := by
    unfold selectCommand
    split <;> rfl
  have hopcode : ∀ op : Byte, formatOfOpcode op = (selectCommand op 0 0).map Instr.format := by decide +kernel
  rw [hoperands, hopcode]

/-! ### The decoder and the encoder -/

/-- The decoder answers the command selected if the bits its format reserves are clear (R110, R117). -/
theorem decode_eq_ok_iff (w : Word) (i : Instr) : decode w = .ok i ↔
    selectCommand (opField w) (aField w) (bField w) = some i ∧ w &&& i.format.reservedMask = 0 := by
  unfold decode
  cases selectCommand (opField w) (aField w) (bField w) with
  | none => simp
  | some j =>
    dsimp only
    split
    · next hclear => simpa using fun h : j = i => h ▸ hclear
    · next hset => simpa using fun h : j = i => h ▸ hset

/-- Under any byte the operand bits of a command leave the reserved bits of its format clear (R112-R114). -/
theorem append_operandBits_clear (i : Instr) (hi : Byte) : (hi ++ i.operandBits) &&& i.format.reservedMask = 0 := by
  obtain ⟨a, b, hselect, hfields⟩ := exists_operands i
  have hformat := (selectCommand_some hselect).2 hi
  rw [hfields] at hformat ⊢
  rw [and_reservedMask_eq_zero_iff, opField_fieldsWord, aField_fieldsWord, bField_fieldsWord, hformat]

theorem opField_encode (i : Instr) : opField (encode i) = i.opcode :=
  BitVec.extractLsb'_append_eq_left

theorem decode_encode (i : Instr) : decode (encode i) = .ok i := by
  rw [decode_eq_ok_iff]
  refine ⟨?_, append_operandBits_clear i i.opcode⟩
  obtain ⟨a, b, hselect, hfields⟩ := exists_operands i
  rw [encode, hfields, opField_fieldsWord, aField_fieldsWord, bField_fieldsWord, hselect]

theorem encode_of_decode (w : Word) (i : Instr) (h : decode w = .ok i) : encode i = w := by
  obtain ⟨hselect, hclear⟩ := (decode_eq_ok_iff w i).1 h
  obtain ⟨hopcode, hoperands⟩ := selectCommand_some hselect
  calc encode i
      = opField w ++ i.operandBits := by rw [encode, hopcode]
    _ = i.format.word (opField w) (aField w) (bField w) := hoperands _
    _ = w := (and_reservedMask_eq_zero_iff _ w).1 hclear

theorem legal_eq_true_iff (w : Word) :
    Word.legal w = true ↔ ∃ f, formatOfOpcode (opField w) = some f ∧ w &&& f.reservedMask = 0 := by
  rw [Word.legal, ← opField]
  cases formatOfOpcode (opField w) <;> simp

/-- A word is legal where the decoder answers a command (R117). -/
theorem legal_iff_exists_decode (w : Word) : Word.legal w = true ↔ ∃ i, decode w = .ok i := by
  simp only [legal_eq_true_iff, decode_eq_ok_iff, formatOfOpcode_eq (opField w) (aField w) (bField w),
    Option.map_eq_some_iff]
  constructor
  · rintro ⟨_, ⟨i, hselect, rfl⟩, hclear⟩
    exact ⟨i, hselect, hclear⟩
  · rintro ⟨i, hselect, hclear⟩
    exact ⟨i.format, ⟨i, hselect, rfl⟩, hclear⟩

theorem wellFormed_eq_true (i : Instr) : i.wellFormed = true := by
  obtain ⟨a, b, hselect, -⟩ := exists_operands i
  have hformat : formatOfOpcode i.opcode = some i.format := by
    rw [formatOfOpcode_eq i.opcode a b, hselect, Option.map_some]
  have hclear : i.operandBits.setWidth 32 &&& i.format.reservedMask = 0 :=
    (BitVec.setWidth_eq_append (by decide) : i.operandBits.setWidth 32 = (0 : Byte) ++ i.operandBits) ▸
      append_operandBits_clear i 0
  simp [Instr.wellFormed, hformat, hclear]

/-- Settles O1: every command is well formed by its format, and is what its own word decodes to. -/
theorem decodeEncodeRoundTrip : Obligations.DecodeEncodeRoundTrip :=
  fun i => ⟨wellFormed_eq_true i, decode_encode i⟩

/-- Settles O2: the decoder answers a command on that command's word only. -/
theorem decoderAcceptsExactlyLegalWords : Obligations.DecoderAcceptsExactlyLegalWords :=
  fun w => ⟨legal_iff_exists_decode w, encode_of_decode w⟩

/-- Settles O3: each word is the word of its command. -/
theorem writtenOutWordsDecode : Obligations.WrittenOutWordsDecode :=
  ⟨decode_encode (.gfAdd 0x53 0xCA), decode_encode (.gfSub 0x99 0xCA), decode_encode (.gfMul 0x57 0x83),
    decode_encode (.gfDiv 0xC1 0x83), decode_encode (.vScale 0x83), decode_encode (.vAdds 0x0F),
    decode_encode (.vAddmul 0x83), decode_encode .cfgDecoder, decode_encode .store, decode_encode .decodeAll,
    decode_encode .encode, decode_encode .flushGen, decode_encode .genQuery⟩

end Sys2Proof

namespace Sys2Proof.Machine

/-! ### Illegal words -/

/-- An illegal word raises ILLEGAL_CMD (R117, R341). -/
theorem execute_illegal (w : Word) (s : State) (h : Word.legal w = false) :
    execute w s = .next (s.raise .illegalCmd) := by
  cases hdecode : decode w with
  | error e => exact execute_error w e s hdecode
  | ok i => exact absurd ((legal_iff_exists_decode w).2 ⟨i, hdecode⟩) (by simp [h])

/-- Settles O4: a legal word has the opcode of a command, and no command has an opcode of the
unassigned ranges; an illegal word, issued or not, ends in the raise. -/
theorem illegalWordRaisesAndChangesNothingElse : Obligations.IllegalWordRaisesAndChangesNothingElse := by
  refine ⟨fun w hop => ?_, fun w f hf hbits => ?_, fun w s hw => ⟨execute_illegal w s hw, fun hbusy => ?_⟩⟩
  · refine Bool.eq_false_iff.2 fun hlegal => ?_
    obtain ⟨i, hdecode⟩ := (legal_iff_exists_decode w).1 hlegal
    rw [← encode_of_decode w i hdecode, toNat_shiftRight_24, opField_encode] at hop
    cases i <;> simp [Instr.opcode] at hop
  · simpa [← Bool.not_eq_true, legal_eq_true_iff, hf] using hbits
  · rw [issue_idle w s hbusy, execute_illegal w _ hw]
    rfl

/-! ### Command issue -/

/-- Settles O5: of the forms of a command's answer, a flush request and the hang of ENCODE alone do not complete. -/
theorem commandIssueDropsOrAccepts : Obligations.CommandIssueDropsOrAccepts := by
  refine ⟨issue_busy, issue_idle, fun i s t h => ?_⟩
  cases exec_effect i s t h with
  | requested _ _ f => exact .inr (.inl ⟨f, rfl⟩)
  | hung => exact .inr (.inr rfl)
  | _ => exact .inl rfl

end Sys2Proof.Machine
end

section
/-! SUPPORT. Proofs of the statements on spec/40_field_scalar.md: scalar commands write their result (R154-R157); the
tables hold the logs and powers of 3 (R151, R159); the product by tables is the polynomial product, since both add up
the products by the terms of the second factor (R152); the field laws, and the unique quotient (R153, R158). -/

namespace Sys2Proof.Machine

/-! ### The scalar commands -/

/-- What the template of the scalar commands writes. -/
theorem scalarResult_eq (r : Byte) (s : State) :
    scalarResult r s = .next { s with
      result := r.setWidth 32
      status := { s.status with result := true, err := 0, busy := false } } := rfl

/-- Settles O12: both commands are the template at the XOR. -/
theorem gfAddAndSubWriteTheXor : Obligations.GfAddAndSubWriteTheXor :=
  fun a b s => ⟨scalarResult_eq (a ^^^ b) s, scalarResult_eq (a ^^^ b) s⟩

/-- Settles O13: the commands are the template at `gfMul` and `gfDiv`, which are total. -/
theorem gfMulAndDivWriteTheResult : Obligations.GfMulAndDivWriteTheResult :=
  fun a b s => ⟨scalarResult_eq (gfMul s.params.gfPoly a b) s, scalarResult_eq (gfDiv s.params.gfPoly a b) s⟩

/-! ### The tables -/

/-- Settles O14: the powers of 3 as polynomials are `genPow`, which repeats after 255 and whose inverse below 255 is the
log. -/
theorem tablesHoldLogsAndPowersOfThree : Obligations.TablesHoldLogsAndPowersOfThree := by
  intro p hp
  simp only [polyPow_eq_genPow]
  refine ⟨fun x hx => ?_, fun i hi => if_pos hi, fun i hi => ?_, fun x y hx hy => ?_⟩
  · obtain ⟨hlt, hpow⟩ := genPow_gfLog p hp x hx
    refine ⟨hlt, hpow, fun e he hex => ?_⟩
    rw [← hex, gfLog_genPow p hp e he]
  · rw [gfAntilog_eq_genPow p hp _ (by omega), gfAntilog_eq_genPow p hp _ (by omega), genPow_add_period p hp]
  · have hltx := (genPow_gfLog p hp x hx).1
    have hlty := (genPow_gfLog p hp y hy).1
    omega

/-! ### The reduction modulo GF_POLY -/

/-- One step of the reduction of `polyReduce`: the term of degree 14 - k is cancelled by a multiple of GF_POLY. -/
def reduceStep (p : BitVec 9) (v : BitVec 16) (k : Nat) : BitVec 16 :=
  if v.getLsbD (14 - k) then v ^^^ (p.setWidth 16 <<< (6 - k)) else v

theorem polyReduce_eq_foldl (p : BitVec 9) (v : BitVec 16) :
    polyReduce p v = ((List.range 7).foldl (reduceStep p) v).setWidth 8 := rfl

theorem reduceStep_xor (p : BitVec 9) (k : Nat) (v w : BitVec 16) :
    reduceStep p (v ^^^ w) k = reduceStep p v k ^^^ reduceStep p w k := by
  have hcancel (q : BitVec 16) : v ^^^ q ^^^ (w ^^^ q) = v ^^^ w := by
    rw [BitVec.xor_comm w, BitVec.xor_assoc, ← BitVec.xor_assoc q, BitVec.xor_self, BitVec.zero_xor]
  simp only [reduceStep, BitVec.getLsbD_xor]
  cases v.getLsbD (14 - k) <;> cases w.getLsbD (14 - k)
  · rfl
  · exact BitVec.xor_assoc ..
  · simp only [Bool.bne_false, if_true, Bool.false_eq_true, if_false]
    ac_rfl
  · exact (hcancel _).symm

theorem foldl_reduceStep_xor (p : BitVec 9) (ks : List Nat) (v w : BitVec 16) :
    ks.foldl (reduceStep p) (v ^^^ w) = ks.foldl (reduceStep p) v ^^^ ks.foldl (reduceStep p) w := by
  induction ks generalizing v w with
  | nil => rfl
  | cons k ks ih => simp only [List.foldl_cons, reduceStep_xor, ih]

/-- The remainder is linear over XOR. -/
theorem polyReduce_xor (p : BitVec 9) (v w : BitVec 16) :
    polyReduce p (v ^^^ w) = polyReduce p v ^^^ polyReduce p w := by
  simp only [polyReduce_eq_foldl, foldl_reduceStep_xor, BitVec.setWidth_xor]

/-- Before the last step the reduction of xv does what the reduction of v does one step later. -/
theorem reduceStep_shiftLeft_one (p : BitVec 9) (v : BitVec 16) (k : Nat) (hk : k < 6) :
    reduceStep p (v <<< 1) k = reduceStep p v (k + 1) <<< 1 := by
  have hbit : (v <<< 1).getLsbD (14 - k) = v.getLsbD (14 - (k + 1)) := by
    rw [BitVec.getLsbD_shiftLeft, show 14 - k - 1 = 14 - (k + 1) by omega]
    simp only [show 14 - k < 16 by omega, show ¬ 14 - k < 1 by omega, decide_true, decide_false, Bool.not_false,
      Bool.true_and]
  have hpoly : p.setWidth 16 <<< (6 - k) = p.setWidth 16 <<< (6 - (k + 1)) <<< 1 := by
    rw [← BitVec.shiftLeft_add, show 6 - (k + 1) + 1 = 6 - k by omega]
  rw [reduceStep, reduceStep, hbit, hpoly, ← BitVec.shiftLeft_xor_distrib]
  split <;> rfl

theorem foldl_reduceStep_shiftLeft_one (p : BitVec 9) (ks : List Nat) (v : BitVec 16) (hks : ∀ k ∈ ks, k < 6) :
    ks.foldl (reduceStep p) (v <<< 1) = (ks.map (· + 1)).foldl (reduceStep p) v <<< 1 := by
  induction ks generalizing v with
  | nil => rfl
  | cons k ks ih =>
    obtain ⟨hk, hrest⟩ := List.forall_mem_cons.1 hks
    rw [List.foldl_cons, reduceStep_shiftLeft_one p v k hk, ih _ hrest, List.map_cons, List.foldl_cons]

/-- The last step of the reduction of xw is `xtime` of the low byte of w. -/
theorem reduceStep_six_shiftLeft_one (p : BitVec 9) (w : BitVec 16) :
    (reduceStep p (w <<< 1) 6).setWidth 8 = xtime p (w.setWidth 8) := by
  have hbit : (w <<< 1).getLsbD (14 - 6) = (w.setWidth 8).getLsbD 7 := by simp
  have hshift : (w <<< 1).setWidth 8 = w.setWidth 8 <<< 1 := by simp [BitVec.setWidth_shiftLeft_of_le]
  rw [reduceStep, xtime, hbit, ← hshift]
  cases (w.setWidth 8).getLsbD 7
  · rfl
  · simp [BitVec.setWidth_xor]

/-- To reduce xv is to reduce v and multiply by x: with bit 14 clear the first step of the reduction of v does nothing,
and the steps after it are those of xv (R152). -/
theorem polyReduce_shiftLeft_one (p : BitVec 9) (v : BitVec 16) (hv : v.getLsbD 14 = false) :
    polyReduce p (v <<< 1) = xtime p (polyReduce p v) := by
  have hfirst : reduceStep p v 0 = v := if_neg (by simp only [hv, Bool.false_eq_true, not_false_eq_true])
  calc polyReduce p (v <<< 1)
      = (reduceStep p ((List.range 6).foldl (reduceStep p) (v <<< 1)) 6).setWidth 8 := rfl
    _ = (reduceStep p (((List.range 6).map (· + 1)).foldl (reduceStep p) v <<< 1) 6).setWidth 8 := by
      rw [foldl_reduceStep_shiftLeft_one p _ v fun _ => List.mem_range.1]
    _ = xtime p ((((List.range 6).map (· + 1)).foldl (reduceStep p) (reduceStep p v 0)).setWidth 8) := by
      rw [reduceStep_six_shiftLeft_one, hfirst]
    _ = xtime p (polyReduce p v) := rfl

/-- A byte is its own remainder. -/
theorem polyReduce_setWidth (p : BitVec 9) (x : Byte) : polyReduce p (x.setWidth 16) = x := by
  rw [polyReduce_of_degree_le_eight p _ fun i hi => by simp [BitVec.getLsbD_of_ge x i (by omega)]]
  simp

/-- The remainder of the product by the term x^k is k times `xtime`. -/
theorem polyReduce_shiftLeft (p : BitVec 9) (x : Byte) (k : Nat) (hk : k < 8) :
    polyReduce p (x.setWidth 16 <<< k) = (xtime p)^[k] x := by
  induction k with
  | zero => rw [BitVec.shiftLeft_zero, polyReduce_setWidth, Function.iterate_zero_apply]
  | succ k ih =>
    have htop : (x.setWidth 16 <<< k).getLsbD 14 = false := by
      simp [BitVec.getLsbD_of_ge x (14 - k) (by omega)]
    rw [BitVec.shiftLeft_add, polyReduce_shiftLeft_one p _ htop, ih (by omega), Function.iterate_succ_apply']

/-! ### The product as a sum over the terms of the second factor -/

/-- The polynomial product adds up the products by the terms of its second factor. -/
theorem polyMul_eq_xorSum (p : BitVec 9) (x y : Byte) :
    polyMul p x y = xorSum 8 (fun k => if y.getLsbD k then (xtime p)^[k] x else 0) := by
  have hsum : ∀ n ≤ 8, polyReduce p ((List.range n).foldl
      (fun acc k => if y.getLsbD k then acc ^^^ (x.setWidth 16 <<< k) else acc) 0)
        = xorSum n (fun k => if y.getLsbD k then (xtime p)^[k] x else 0) := by
    intro n hn
    induction n with
    | zero => exact polyReduce_setWidth p 0
    | succ n ih =>
      rw [List.range_succ, List.foldl_append, List.foldl_cons, List.foldl_nil, xorSum, ← ih (by omega)]
      cases y.getLsbD n
      · exact (BitVec.xor_zero ..).symm
      · rw [if_pos rfl, if_pos rfl, polyReduce_xor, polyReduce_shiftLeft p x n (by omega)]
  exact hsum 8 le_rfl

/-- A byte is the sum of its terms. -/
theorem xorSum_terms : ∀ y : Byte, xorSum 8 (fun k => if y.getLsbD k then 1#8 <<< k else 0) = y := by
  decide +kernel

/-- Below degree 8 the powers of x need no reduction. -/
theorem iterate_xtime_one (p : BitVec 9) (k : Nat) (hk : k < 8) : (xtime p)^[k] 1#8 = 1#8 <<< k := by
  induction k with
  | zero => rfl
  | succ k ih =>
    have htop : (1#8 <<< k).getLsbD 7 = false := by
      rw [← BitVec.twoPow_eq, BitVec.getLsbD_twoPow]
      simp only [show k ≠ 7 by omega, decide_false, Bool.and_false]
    rw [Function.iterate_succ_apply', ih (by omega), xtime, htop, if_neg Bool.false_ne_true, BitVec.shiftLeft_add]

section
variable (p : BitVec 9) (hp : p ∈ Config.legalPolys)
include hp

theorem gfMul_one_left (y : Byte) : gfMul p 1#8 y = y := gfMul_genPow_left p hp 0 y

theorem gfMul_three_left (y : Byte) : gfMul p (mulGen p 1#8) y = mulGen p y := gfMul_genPow_left p hp 1 y

/-- Multiplication by x is `xtime`, since x = 3 ⊕ 1. -/
theorem gfMul_xtime_one_left (y : Byte) : gfMul p (xtime p 1#8) y = xtime p y := by
  have hx (z : Byte) : xtime p z = mulGen p z ^^^ z := by
    rw [mulGen, BitVec.xor_assoc, BitVec.xor_self, BitVec.xor_zero]
  rw [hx, hx, gfMul_xor_left p hp, gfMul_three_left p hp, gfMul_one_left p hp]

/-- Multiplication by the term x^k is k times `xtime`. -/
theorem gfMul_shiftLeft_right (x : Byte) (k : Nat) (hk : k < 8) : gfMul p x (1#8 <<< k) = (xtime p)^[k] x := by
  have hpow : ∀ j, gfMul p ((xtime p)^[j] 1#8) x = (xtime p)^[j] x := by
    intro j
    induction j with
    | zero => exact gfMul_one_left p hp x
    | succ j ih =>
      rw [Function.iterate_succ_apply', ← gfMul_xtime_one_left p hp, gfMul_assoc p hp, ih, gfMul_xtime_one_left p hp,
        Function.iterate_succ_apply']
  rw [← iterate_xtime_one p k hk, gfMul_comm, hpow]

/-- The product by tables is the polynomial product: both add up the products by the terms of `y` (R152). -/
theorem gfMul_eq_polyMul (x y : Byte) : gfMul p x y = polyMul p x y :=
  calc gfMul p x y
      = gfMul p x (xorSum 8 (fun k => if y.getLsbD k then 1#8 <<< k else 0)) := by rw [xorSum_terms]
    _ = xorSum 8 (fun k => gfMul p x (if y.getLsbD k then 1#8 <<< k else 0)) := gfMul_xorSum p hp x 8 _
    _ = xorSum 8 (fun k => if y.getLsbD k then (xtime p)^[k] x else 0) := by
      refine xorSum_congr 8 _ _ fun k hk => ?_
      rw [apply_ite (gfMul p x), gfMul_shiftLeft_right p hp x k hk]
      exact congrArg (ite _ _) (gfMul_zero_right p x)
    _ = polyMul p x y := (polyMul_eq_xorSum p x y).symm

end

/-- Settles O15: the cases of `gfMul` are the table formula, and `gfMul_eq_polyMul` is the rest. -/
theorem multiplicationIsThePolynomialProduct : Obligations.MultiplicationIsThePolynomialProduct :=
  fun p hp x y => ⟨fun h => if_pos h, fun hx hy => if_neg (not_or.2 ⟨hx, hy⟩), gfMul_eq_polyMul p hp x y⟩

/-! ### Quotients and the field laws -/

section
variable (p : BitVec 9) (hp : p ∈ Config.legalPolys)
include hp

/-- There are no zero divisors (R158). -/
theorem gfMul_eq_zero_iff (a b : Byte) : gfMul p a b = 0 ↔ a = 0 ∨ b = 0 := by
  refine ⟨fun h => ?_, fun h => if_pos h⟩
  by_contra! hne
  obtain ⟨i, -, rfl⟩ := genPow_surjective p hp a hne.1
  obtain ⟨j, -, rfl⟩ := genPow_surjective p hp b hne.2
  rw [gfMul_genPow p hp] at h
  exact genPow_ne_zero p hp (i + j) h

theorem gfMul_right_cancel (a b c : Byte) (hc : c ≠ 0) (h : gfMul p a c = gfMul p b c) : a = b := by
  have hzero : gfMul p (a ^^^ b) c = 0 := by
    rw [gfMul_xor_left p hp, h]
    exact BitVec.xor_self
  exact BitVec.xor_eq_zero_iff.1 (((gfMul_eq_zero_iff p hp _ c).1 hzero).resolve_right hc)

/-- Division by a nonzero byte is multiplication by its inverse (R158). -/
theorem gfDiv_eq_gfMul_inverse (a b : Byte) (hb : b ≠ 0) : gfDiv p a b = gfMul p a (gfDiv p 1 b) := by
  refine gfMul_right_cancel p hp _ _ b hb ?_
  rw [gfMul_gfDiv_cancel p hp a b hb, gfMul_assoc p hp, gfMul_gfDiv_cancel p hp 1 b hb, gfMul_comm]
  exact (gfMul_one_left p hp a).symm

end

/-- Settles O16: the quotient times the divisor is the dividend, and a nonzero factor cancels. -/
theorem divisionGivesTheUniqueQuotient : Obligations.DivisionGivesTheUniqueQuotient := by
  refine fun p hp x y => ⟨fun h => if_pos h, fun hx hy i hi => ?_, fun hy => ?_⟩
  · have hlog := (genPow_gfLog p hp y hy).1
    rw [gfDiv, if_neg (not_or.2 ⟨hx, hy⟩), show gfLog p x + 255 - gfLog p y = i by omega]
  · have hquot := gfMul_gfDiv_cancel p hp x y hy
    exact ⟨hquot, fun z hz => gfMul_right_cancel p hp z _ y hy (hz.trans hquot.symm)⟩

/-- Settles O17: the laws of XOR and those of `gfMul` and `gfDiv`, item by item of R158. -/
theorem fieldLawsHold : Obligations.FieldLawsHold := by
  refine fun p hp a b c => ⟨⟨BitVec.xor_comm a b, BitVec.xor_assoc a b c, BitVec.xor_zero, BitVec.xor_self⟩,
    ⟨gfMul_comm p a b, gfMul_assoc p hp a b c, ?_, gfMul_zero_right p a⟩, gfMul_xor_right p hp a b c,
    gfMul_eq_zero_iff p hp a b, fun hb => ⟨gfMul_gfDiv_cancel p hp a b hb, gfDiv_eq_gfMul_inverse p hp a b hb⟩,
    ⟨if_pos (.inr rfl), gfDiv_zero_left p b, fun ha h => ?_⟩, fun x h => (BitVec.xor_eq_zero_iff.1 h).symm⟩
  · exact (gfMul_comm p a 1).trans (gfMul_one_left p hp a)
  · exact ha (h.symm.trans (gfMul_zero_right p _))

end Sys2Proof.Machine
end

section
/-! SUPPORT. Proofs of the statements on spec/41_field_vector.md: what the loops over a range leave at each offset
(R182), and the vector commands as one loop behind their bounds checks (R180, R183-R187). -/

namespace Sys2Proof.Machine

/-! ### Loops over a range -/

namespace Memory

/-- A loop of n + 1 elements ends with the element n, on what the elements before it left (R182). -/
theorem zipBytes_succ (f : Byte → Byte → Byte) (m : Memory) (dst src n : Nat) :
    m.zipBytes f dst src (n + 1) = (m.zipBytes f dst src n).write (dst + n)
      (f ((m.zipBytes f dst src n).read (dst + n)) ((m.zipBytes f dst src n).read (src + n))) := by
  induction n generalizing m dst src with
  | zero => rfl
  | succ n ih =>
    rw [zipBytes, ih, zipBytes, Nat.add_right_comm dst, Nat.add_right_comm src, Nat.add_assoc dst, Nat.add_assoc src]

/-- Where no element's source is written before it is read, every element comes from the old values. -/
theorem read_zipBytes_inside (f : Byte → Byte → Byte) (m : Memory) (dst src n i : Nat) (h : m.wf = true)
    (hsrc : dst ≤ src ∨ src + n ≤ dst) (hi : i < n) :
    (m.zipBytes f dst src n).read (dst + i) = f (m.read (dst + i)) (m.read (src + i)) := by
  induction n with
  | zero => omega
  | succ n ih =>
    rw [zipBytes_succ]
    rcases Nat.lt_succ_iff_lt_or_eq.1 hi with hlt | rfl
    · rw [read_write_other _ _ _ _ (by omega), ih (by omega) hlt]
    · rw [read_write_same _ _ _ (zipBytes_wf f m dst src i h), read_zipBytes_outside f m dst src i _ (by omega),
        read_zipBytes_outside f m dst src i _ (by omega)]

/-- A loop whose elements keep the old byte changes nothing. -/
theorem zipBytes_eq_self (f : Byte → Byte → Byte) (m : Memory) (dst src n : Nat) (h : m.wf = true)
    (hf : ∀ d x, f d x = d) : m.zipBytes f dst src n = m := by
  induction n with
  | zero => rfl
  | succ n ih => rw [zipBytes_succ, ih, hf, write_read_self m _ h]

/-- A loop in place is a loop whose elements do not look at their source. -/
theorem mapBytes_eq_zipBytes (f : Byte → Byte) (m : Memory) (dst n : Nat) :
    m.mapBytes f dst n = m.zipBytes (fun d _ => f d) dst dst n := by
  induction n generalizing m dst with
  | zero => rfl
  | succ n ih => exact ih _ _

/-- What a loop in place leaves at each offset: every byte of the range is rewritten from its own old value (R182). -/
theorem read_mapBytes (f : Byte → Byte) (m : Memory) (dst n a : Nat) (h : m.wf = true) :
    (m.mapBytes f dst n).read a = if dst ≤ a ∧ a < dst + n then f (m.read a) else m.read a := by
  rw [mapBytes_eq_zipBytes]
  split
  · next ha =>
    obtain ⟨i, rfl⟩ := Nat.exists_eq_add_of_le ha.1
    exact read_zipBytes_inside _ m dst dst n i h (.inl le_rfl) (by omega)
  · next ha => exact read_zipBytes_outside _ m dst dst n a (by omega)

end Memory

/-! ### The commands in place -/

theorem vectorInPlace_inRange (f : Byte → Byte) (s : State) (h : s.vecDst + s.vecLen ≤ s.params.maxBuffer) :
    vectorInPlace f s = .next ((s.setBlk (s.blk.mapBytes f s.vecDst s.vecLen)).finish true) :=
  congrArg _ (if_pos (decide_eq_true h))

theorem vectorInPlace_outOfRange (f : Byte → Byte) (s : State) (h : s.params.maxBuffer < s.vecDst + s.vecLen) :
    vectorInPlace f s = .next (s.raise .range) :=
  congrArg _ (if_neg (by simpa [State.dstInRange] using h))

/-- Settles O19: the three commands are `vectorInPlace`, and `read_mapBytes` says what its loop leaves. -/
theorem inPlaceVectorCommandsRewriteTheirRange : Obligations.InPlaceVectorCommandsRewriteTheirRange := by
  intro c s hwf
  have hread (f : Byte → Byte) (a : Nat) := Memory.read_mapBytes f s.blk s.vecDst s.vecLen a hwf
  constructor
  · intro hin
    have hrun (f : Byte → Byte) := vectorInPlace_inRange f s hin
    exact ⟨⟨_, hrun _, hread _⟩, ⟨_, hrun _, hrun _, hread _⟩⟩
  · intro hout
    have hraise (f : Byte → Byte) := vectorInPlace_outOfRange f s hout
    exact ⟨hraise _, hraise _, hraise _⟩

/-! ### Fused multiply-add -/

/-- BLK after the first i elements of V_ADDMUL (R182, R186). -/
def State.addmulPrefix (c : Byte) (s : State) (i : Nat) : Memory :=
  s.blk.zipBytes (fun d x => gfAdd d (gfMul s.params.gfPoly c x)) s.vecDst s.vecSrc i

/-- Element i rewrites the byte dst + i from the bytes dst + i and src + i as the elements before left them (R182). -/
theorem State.read_addmulPrefix_succ (c : Byte) (s : State) (i a : Nat) (h : s.blk.wf = true) :
    (s.addmulPrefix c (i + 1)).read a =
      if a = s.vecDst + i then
        (s.addmulPrefix c i).read (s.vecDst + i) ^^^ gfMul s.params.gfPoly c ((s.addmulPrefix c i).read (s.vecSrc + i))
      else (s.addmulPrefix c i).read a := by
  rw [addmulPrefix, Memory.zipBytes_succ]
  exact Memory.read_write _ _ a _ (Memory.zipBytes_wf _ s.blk _ _ i h)

/-- Both ranges in block memory: the loop runs; the fast path for C = 0 leaves what the loop would (R186). -/
theorem vectorAddmul_inRange (c : Byte) (s : State) (hwf : s.blk.wf = true)
    (hdst : s.vecDst + s.vecLen ≤ s.params.maxBuffer) (hsrc : s.vecSrc + s.vecLen ≤ s.params.maxBuffer) :
    vectorAddmul c s = .next ((s.setBlk (s.addmulPrefix c s.vecLen)).finish true) := by
  have hd : s.dstInRange = true := decide_eq_true hdst
  have hs : s.srcInRange = true := decide_eq_true hsrc
  rw [vectorAddmul, hd, hs]
  by_cases hc : c = 0
  · have hloop : s.addmulPrefix c s.vecLen = s.blk := Memory.zipBytes_eq_self _ _ _ _ _ hwf fun d x => by
      simp [gfAdd, hc]
    rw [hloop, if_pos hc]
    rfl
  · rw [if_neg hc]
    rfl

/-- Either range beyond block memory: RANGE, before C is looked at (R180, R186). -/
theorem vectorAddmul_outOfRange (c : Byte) (s : State)
    (h : s.params.maxBuffer < s.vecDst + s.vecLen ∨ s.params.maxBuffer < s.vecSrc + s.vecLen) :
    vectorAddmul c s = .next (s.raise .range) := by
  rw [vectorAddmul]
  by_cases hdst : s.vecDst + s.vecLen ≤ s.params.maxBuffer
  · have hd : s.dstInRange = true := decide_eq_true hdst
    have hs : s.srcInRange = false := decide_eq_false (by omega)
    rw [hd, hs]
    rfl
  · have hd : s.dstInRange = false := decide_eq_false hdst
    rw [hd]
    rfl

/-- Settles O20: the chain is `addmulPrefix`; disjoint and identical ranges are cases of `read_zipBytes_inside`, and
for identical ones the distributive law collects the two terms. -/
theorem fusedMultiplyAddRunsInAscendingOrder : Obligations.FusedMultiplyAddRunsInAscendingOrder := by
  intro c s hwf hp hdst hsrc
  have hexec := vectorAddmul_inRange c s hwf hdst hsrc
  have hold (hranges : s.vecDst ≤ s.vecSrc ∨ s.vecSrc + s.vecLen ≤ s.vecDst) (i : Nat) (hi : i < s.vecLen) :
      (s.addmulPrefix c s.vecLen).read (s.vecDst + i) =
        s.blk.read (s.vecDst + i) ^^^ gfMul s.params.gfPoly c (s.blk.read (s.vecSrc + i)) :=
    Memory.read_zipBytes_inside _ s.blk _ _ _ i hwf hranges hi
  refine ⟨s.addmulPrefix c, rfl, fun i _ a => s.read_addmulPrefix_succ c i a hwf, hexec, hexec, ?_, ?_⟩
  · rintro (hbelow | habove | hsame)
    · exact hold (.inl (Nat.le_of_add_right_le hbelow))
    · exact hold (.inr habove)
    · exact hold (.inl (congrArg BitVec.toNat hsame).le)
  · intro hsame i hi
    have hsrc : s.vecSrc = s.vecDst := congrArg BitVec.toNat hsame.symm
    refine (hold (.inl hsrc.ge) i hi).trans ?_
    rw [hsrc, gfMul_xor_left _ hp, BitVec.xor_comm]
    exact congrArg (gfMul _ c _ ^^^ ·) (gfMul_one_left _ hp _).symm

/-- Settles O21: both commands are `vectorAddmul`, which checks both ranges first. -/
theorem fusedMultiplyAddChecksBothRanges : Obligations.FusedMultiplyAddChecksBothRanges :=
  fun c s h => ⟨vectorAddmul_outOfRange c s h, vectorAddmul_outOfRange c s h⟩

end Sys2Proof.Machine
end

section
/-! SUPPORT. Proofs of the statements on spec/42_session_config.md: the partition (R210, R211), the validation of a
configuration (R213), and what the two construction modes create (R214, R215). -/

namespace Sys2Proof.Machine

/-! ### The partition -/

namespace Partition

/-- The blocks exceed the data by the bytes that are missing from its last block (R211). -/
theorem bufferSizeOf_sub (bs len : Nat) (hb : 0 < bs) (hl : 0 < len) :
    bufferSizeOf bs len - len = (bs - len % bs) % bs := by
  obtain ⟨-, hfit, hlast⟩ := numBlocksOf_bounds bs len hb hl
  have hshort : numBlocksOf bs len * bs - len < bs := by
    rw [Nat.sub_one_mul] at hlast
    omega
  have hcongr : numBlocksOf bs len * bs - len ≡ bs - len % bs [MOD bs] := by
    refine Nat.ModEq.add_right_cancel' (len % bs) ?_
    calc numBlocksOf bs len * bs - len + len % bs
        ≡ numBlocksOf bs len * bs - len + len [MOD bs] := (Nat.mod_modEq len bs).add_left _
      _ = numBlocksOf bs len * bs := Nat.sub_add_cancel hfit
      _ ≡ bs [MOD bs] := by simp [Nat.ModEq]
      _ = bs - len % bs + len % bs := (Nat.sub_add_cancel (Nat.mod_lt len hb).le).symm
  exact (Nat.mod_eq_of_lt hshort).symm.trans hcongr

/-- Every generation but the last has blocksPerGeneration blocks (R211). -/
theorem genBlocksOf_of_not_last (bs bpg len g : Nat) (h : g + 1 < numGenerationsOf bs bpg len) :
    genBlocksOf bs bpg len g = bpg := if_pos h

/-- The last generation has the remaining blocks (R211). -/
theorem genBlocksOf_last (bs bpg len g : Nat) (h : numGenerationsOf bs bpg len ≤ g + 1) :
    genBlocksOf bs bpg len g = numBlocksOf bs len - bpg * (numGenerationsOf bs bpg len - 1) := if_neg h.not_gt

/-- Block k lies in generation k / blocksPerGeneration, at row k % blocksPerGeneration (R211). -/
theorem block_in_generation (bs bpg len k : Nat) (hb : 0 < bs) (hg : 0 < bpg) (hl : 0 < len)
    (hk : k < numBlocksOf bs len) :
    k / bpg < numGenerationsOf bs bpg len ∧ k % bpg < genBlocksOf bs bpg len (k / bpg) := by
  obtain ⟨-, hfit, -⟩ := numGenerationsOf_bounds bs bpg len hb hg hl
  have hgen : k / bpg < numGenerationsOf bs bpg len := (Nat.div_lt_iff_lt_mul hg).2 (hk.trans_le hfit)
  refine ⟨hgen, ?_⟩
  rcases Nat.lt_or_ge (k / bpg + 1) (numGenerationsOf bs bpg len) with hinner | hlast
  · rw [genBlocksOf_of_not_last _ _ _ _ hinner]
    exact Nat.mod_lt k hg
  · have hcount : numGenerationsOf bs bpg len - 1 = k / bpg := Nat.sub_eq_of_eq_add (hlast.antisymm hgen)
    rw [genBlocksOf_last _ _ _ _ hlast, hcount, Nat.lt_sub_iff_add_lt', Nat.div_add_mod]
    exact hk

/-- A block lies in one generation only, at one row only (R211). -/
theorem generation_and_row_unique (bs bpg len g i : Nat) (hb : 0 < bs) (hg : 0 < bpg) (hl : 0 < len)
    (hi : i < genBlocksOf bs bpg len g) : g = (bpg * g + i) / bpg ∧ i = (bpg * g + i) % bpg := by
  have hrow : i < bpg := hi.trans_le (genBlocksOf_bounds bs bpg len g hb hg hl).2
  obtain ⟨hdiv, hmod⟩ := (Nat.div_mod_unique hg).2 ⟨Nat.add_comm i (bpg * g), hrow⟩
  exact ⟨hdiv.symm, hmod.symm⟩

end Partition

/-- Settles O22: the bounds of ceiling division, for blocks and for generations; a block's generation and row are its
quotient and remainder by blocksPerGeneration. -/
theorem partitionArithmetic : Obligations.PartitionArithmetic := by
  intro ses hb hg hl
  obtain ⟨-, hblocks, hlastBlock⟩ := Partition.numBlocksOf_bounds ses.blockSize ses.dataLength hb hl
  obtain ⟨hpos, hgens, hlastGen⟩ :=
    Partition.numGenerationsOf_bounds ses.blockSize ses.blocksPerGen ses.dataLength hb hg hl
  refine ⟨⟨hblocks, hlastBlock⟩, ⟨hgens, hlastGen⟩, rfl, bne_iff_ne, bne_iff_ne, ?_, ?_, ?_, ?_, ?_, ?_⟩
  · exact fun g => Partition.genBlocksOf_of_not_last _ _ _ g
  · exact Partition.genBlocksOf_last _ _ _ _ (Nat.sub_add_cancel hpos).ge
  · exact fun g _ => Partition.genBlocksOf_bounds _ _ _ g hb hg hl
  · refine fun g hgn i hi => ⟨?_, ses.slot_within g i hb hg hl hgn hi⟩
    rw [Session.slotOffset, Nat.add_mul, Nat.mul_comm ses.blocksPerGen]
  · exact Partition.bufferSizeOf_sub _ _ hb hl
  · intro k hk
    obtain ⟨hgen, hrow⟩ := Partition.block_in_generation _ ses.blocksPerGen _ k hb hg hl hk
    refine ⟨k / ses.blocksPerGen, hgen, k % ses.blocksPerGen, hrow, (Nat.div_add_mod k _).symm, ?_⟩
    rintro g' - i' hi' rfl
    exact Partition.generation_and_row_unique _ _ _ g' i' hb hg hl hi'

/-! ### Validation -/

/-- A configuration is not valid exactly where a check of R213 fails. -/
theorem validConfig_eq_false_iff (p : Config.Params) (bs bpg len : Nat) : validConfig p bs bpg len = false ↔
    bs = 0 ∨ bpg = 0 ∨ len = 0 ∨ p.maxBlockSize < bs ∨ p.maxGenBlocks < bpg ∨ p.maxBuffer < bufferSizeOf bs len ∨
      p.maxGenerations < numGenerationsOf bs bpg len := by
  rw [← Bool.not_eq_true, validConfig_iff]
  omega

theorem validConfig_pos {p : Config.Params} {bs bpg len : Nat} (hv : validConfig p bs bpg len = true) :
    0 < bs ∧ 0 < bpg ∧ 0 < len := by
  obtain ⟨hbs, hbpg, hlen, -⟩ := (validConfig_iff ..).1 hv
  exact ⟨Nat.pos_of_ne_zero hbs, Nat.pos_of_ne_zero hbpg, Nat.pos_of_ne_zero hlen⟩

/-- The session the CFG_* registers describe (R212). -/
def State.configuredSession (mode : Mode) (s : State) : Session :=
  Session.create mode s.cfgBlockSize.toNat s.cfgBlocksPerGen.toNat s.cfgDataLength.toNat

/-- BLK after a configuration (R214, R215). -/
def State.configuredBlk (mode : Mode) (s : State) : Memory :=
  s.blk.zeroFill (zeroFillFrom mode s.cfgDataLength.toNat) (s.configuredSession mode).bufferSize

/-- A valid configuration creates the session and finishes with 1 (R212). -/
theorem configure_valid (mode : Mode) (s : State)
    (hv : validConfig s.params s.cfgBlockSize.toNat s.cfgBlocksPerGen.toNat s.cfgDataLength.toNat = true) :
    configure mode s = .next (State.finish true
      { s with session := some (s.configuredSession mode), blk := s.configuredBlk mode }) :=
  congrArg Host.Outcome.next (if_pos hv)

/-- Any other configuration raises BAD_CONFIG (R213). -/
theorem configure_invalid (mode : Mode) (s : State)
    (hv : validConfig s.params s.cfgBlockSize.toNat s.cfgBlocksPerGen.toNat s.cfgDataLength.toNat = false) :
    configure mode s = .next (s.raise .badConfig) :=
  congrArg Host.Outcome.next (if_neg (Bool.eq_false_iff.1 hv))

/-- Settles O23: both commands are the common step `configure`, which branches on the checks of R213. -/
theorem configurationIsValidated : Obligations.ConfigurationIsValidated := by
  rintro s _ _ _ _ _ rfl rfl rfl rfl rfl
  constructor
  · intro hbad
    have hv := (validConfig_eq_false_iff s.params _ _ _).2 hbad
    exact ⟨configure_invalid .encoder s hv, configure_invalid .decoder s hv⟩
  · intro hgood
    have hv := eq_true_of_ne_false (mt (validConfig_eq_false_iff s.params _ _ _).1 hgood)
    exact ⟨⟨_, _, configure_valid .encoder s hv⟩, ⟨_, _, configure_valid .decoder s hv⟩⟩

/-! ### What a valid configuration creates -/

/-- BLK reads 0 where the configuration fills it and as before elsewhere (R214, R215). -/
theorem read_configuredBlk (mode : Mode) (s : State) (a : Nat) : (s.configuredBlk mode).read a =
    if zeroFillFrom mode s.cfgDataLength.toNat ≤ a ∧ a < (s.configuredSession mode).bufferSize then 0
    else s.blk.read a := Memory.read_zeroFill _ _ _ a

/-- Each generation of a created session is a fresh one of its block count (R214, R215). -/
theorem gen_configuredSession (mode : Mode) (s : State) (g : Nat)
    (hg : g < (s.configuredSession mode).numGenerations) :
    (s.configuredSession mode).gen g = Gen.fresh mode ((s.configuredSession mode).blocksOf g) :=
  Session.gen_create mode _ _ _ g hg

section
variable {s : State} (mode : Mode)
  (hv : validConfig s.params s.cfgBlockSize.toNat s.cfgBlocksPerGen.toNat s.cfgDataLength.toNat = true)

include hv

theorem configuredSession_ok : (s.configuredSession mode).Ok s.params := Session.create_ok _ mode _ _ _ hv

theorem configuredSession_numGenerations_pos : 0 < (s.configuredSession mode).numGenerations := by
  obtain ⟨hbs, hbpg, hlen⟩ := validConfig_pos hv
  exact (Partition.numGenerationsOf_bounds _ _ _ hbs hbpg hlen).1

theorem configuredSession_blocksOf_pos (g : Nat) : 0 < (s.configuredSession mode).blocksOf g := by
  obtain ⟨hbs, hbpg, hlen⟩ := validConfig_pos hv
  exact (Partition.genBlocksOf_bounds _ _ _ g hbs hbpg hlen).1

end

/-- GENS_COMPLETED is 0 where no generation is complete (R39). -/
theorem gensCompleted_eq_zero (ses : Session) (h : ∀ g < ses.numGenerations, (ses.gen g).rank ≠ ses.blocksOf g) :
    ses.gensCompleted = 0 := by
  rw [Session.gensCompleted, List.countP_eq_zero]
  intro g hg
  rw [Session.complete, beq_iff_eq]
  exact h g (List.mem_range.1 hg)

/-- Settles O24: every generation is `Gen.fresh .encoder`, of full rank and decoded, and the zero fill starts at the end
of the data. -/
theorem cfgEncoderCreatesAnEncoderSession : Obligations.CfgEncoderCreatesAnEncoderSession := by
  intro s hv
  have hgen := gen_configuredSession .encoder s
  obtain ⟨-, hcount, hok⟩ := configuredSession_ok .encoder hv
  have hcan : (s.configuredSession .encoder).canDecode = true := (canDecode_iff _).2 fun g hg => by rw [hgen g hg]; rfl
  have hall : (s.configuredSession .encoder).allDecoded = true := (allDecoded_iff _).2 fun g hg => (hok g hg).2 rfl
  refine ⟨_, _, configure_valid .encoder s hv, rfl, rfl, rfl, rfl, hcount, fun g hg => ?_,
    read_configuredBlk .encoder s, hcan, hall, beq_iff_eq.1 hcan⟩
  rw [hgen g hg]
  exact ⟨rfl, rfl, Matrix.square_identity _, fun i hi j hj => Matrix.entry_identity _ i j hi hj⟩

/-- Settles O25: every generation is `Gen.fresh .decoder`, of rank 0 where its block count is positive, so none is
complete; the zero fill starts at 0. -/
theorem cfgDecoderCreatesADecoderSession : Obligations.CfgDecoderCreatesADecoderSession := by
  intro s hv
  have hgen := gen_configuredSession .decoder s
  have hpos := configuredSession_numGenerations_pos .decoder hv
  obtain ⟨-, hcount, -⟩ := configuredSession_ok .decoder hv
  have hnone : (s.configuredSession .decoder).gensCompleted = 0 := gensCompleted_eq_zero _ fun g hg => by
    rw [hgen g hg]
    exact (configuredSession_blocksOf_pos .decoder hv g).ne
  have hcan : (s.configuredSession .decoder).canDecode = false := by
    rw [Session.canDecode, hnone]
    exact beq_eq_false_iff_ne.2 hpos.ne
  have hall : (s.configuredSession .decoder).allDecoded = false := Bool.eq_false_iff.2 fun h => by
    have hfirst := (allDecoded_iff _).1 h 0 hpos
    rw [hgen 0 hpos] at hfirst
    exact Bool.false_ne_true hfirst
  refine ⟨_, _, configure_valid .decoder s hv, rfl, rfl, rfl, rfl, hcount, fun g hg => ?_, fun a => ?_, hcan, hall,
    hnone⟩
  · rw [hgen g hg]
    exact ⟨rfl, rfl, Matrix.square_zero _, fun i hi j hj => Matrix.entry_zero _ i j hi hj⟩
  · exact (read_configuredBlk .decoder s a).trans (if_congr (and_iff_right (Nat.zero_le a)) rfl rfl)

end Sys2Proof.Machine
end

section
/-! SUPPORT. Proofs of the statements on spec/43_store_elimination.md: packet validation (R241, R242), the single-row
form (R247), and which packets the rank test rejects (R248-R251): a combination of accepted rows, cleared before the
diagonal, is zero on it. -/

namespace Sys2Proof.Machine

/-! ### Packet validation -/

theorem Session.validPacket_iff (ses : Session) (g nb pbs : Nat) :
    ses.validPacket g nb pbs = true ↔ g < ses.numGenerations ∧ nb = ses.blocksOf g ∧ pbs = ses.blockSize := by
  simp only [validPacket, Bool.and_eq_true, decide_eq_true_eq, and_assoc]

section
variable (s : State) (ses : Session) (hs : s.session = some ses)
include hs

/-- STORE in a session validates the packet and then looks at the rank (R240-R242). -/
theorem exec_store_eq : exec .store s = .next (
    if !ses.validPacket s.pktGen.toNat s.pktNumBlocks.toNat s.pktBlockSize.toNat then s.finish false
    else if (ses.gen s.pktGen.toNat).rank = ses.blocksOf s.pktGen.toNat then s.finish true
    else storePacket ses s.pktGen.toNat s) :=
  congrArg Host.Outcome.next (s.withSession_some _ ses hs)

theorem exec_store_invalid
    (hv : ¬ ses.validPacket s.pktGen.toNat s.pktNumBlocks.toNat s.pktBlockSize.toNat = true) :
    exec .store s = .next (s.finish false) := by
  rw [exec_store_eq s ses hs, if_pos (by simpa using hv)]

theorem exec_store_valid (hv : ses.validPacket s.pktGen.toNat s.pktNumBlocks.toNat s.pktBlockSize.toNat = true) :
    exec .store s = .next (if (ses.gen s.pktGen.toNat).rank = ses.blocksOf s.pktGen.toNat then s.finish true
      else storePacket ses s.pktGen.toNat s) := by
  rw [exec_store_eq s ses hs, if_neg (by simp [hv])]

end

/-- Settles O26: the packet is not valid. -/
theorem storeRejectsMismatchedPackets : Obligations.StoreRejectsMismatchedPackets := by
  intro s ses hs hmismatch
  refine exec_store_invalid s ses hs fun hv => ?_
  obtain ⟨hg, hblocks, hsize⟩ := (ses.validPacket_iff _ _ _).1 hv
  rcases hmismatch with h | h | h
  · exact Nat.not_lt_of_le h hg
  · exact h hblocks
  · exact h hsize

/-- Settles O27: the rank is looked at before anything is written. -/
theorem storeAcceptsACompleteGenerationTrivially : Obligations.StoreAcceptsACompleteGenerationTrivially := by
  intro s ses hs hg hblocks hsize hr
  rw [exec_store_valid s ses hs ((ses.validPacket_iff _ _ _).2 ⟨hg, hblocks, hsize⟩), if_pos hr]

/-- Settles O28: a valid packet to an incomplete generation is taken, and `storePacket` is its single-row form. -/
theorem storeEqualsItsSingleRowForm : Obligations.StoreEqualsItsSingleRowForm := by
  intro s ses hs hlegal hm hses hg hblocks hsize hr
  obtain ⟨-, -, hgens⟩ := hses
  rw [exec_store_valid s ses hs ((ses.validPacket_iff _ _ _).2 ⟨hg, hblocks, hsize⟩), if_neg hr.ne,
    storePacket_eq_singleRowStore s ses _ hlegal.1 hm (hgens _ hg).1 hr]

/-! ### Combinations of rows -/

theorem xorSum_eq_zero (n : Nat) (f : Nat → Byte) (h : ∀ i < n, f i = 0) : xorSum n f = 0 := by
  induction n with
  | zero => rfl
  | succ n ih =>
    rw [xorSum, ih fun i hi => h i (Nat.lt_succ_of_lt hi), h n (Nat.lt_succ_self n)]
    exact BitVec.xor_zero

/-- A sum with one term that may be nonzero is that term. -/
theorem xorSum_eq_single (n : Nat) (f : Nat → Byte) (k : Nat) (hk : k < n) (h : ∀ i < n, i ≠ k → f i = 0) :
    xorSum n f = f k := by
  induction n with
  | zero => exact absurd hk (Nat.not_lt_zero k)
  | succ n ih =>
    rw [xorSum]
    rcases Nat.eq_or_lt_of_le (Nat.le_of_lt_succ hk) with rfl | hlt
    · rw [xorSum_eq_zero k f fun i hi => h i (Nat.lt_succ_of_lt hi) hi.ne]
      exact BitVec.zero_xor
    · rw [ih hlt fun i hi => h i (Nat.lt_succ_of_lt hi), h n (Nat.lt_succ_self n) hlt.ne']
      exact BitVec.xor_zero

/-- The coefficients that pick one of the combined blocks or rows. -/
def unitCoeffs (k i : Nat) : Byte := if i = k then 1 else 0

section
variable (p : BitVec 9) (hp : p ∈ Config.legalPolys)
include hp

theorem combination_unitCoeffs (n k : Nat) (hk : k < n) (orig : Nat → Nat → Byte) (b : Nat) :
    combination p n (unitCoeffs k) orig b = orig k b := by
  rw [combination, xorSum_eq_single n _ k hk fun i _ hik => ?_]
  · rw [unitCoeffs, if_pos rfl]
    exact gfMul_one_left p hp _
  · rw [unitCoeffs, if_neg hik]
    exact gfMul_zero_left p _

/-- Accepted rows are triangular, so a combination of them that is zero before column rank has no nonzero coefficient:
column i shows coefficient i once those before are known to be zero. -/
theorem Gen.Ok.coeffs_eq_zero {n : Nat} {x : Gen} (hok : x.Ok n) (u : Nat → Byte)
    (h : ∀ j < x.rank, combination p x.rank u (Matrix.entry x.matrix) j = 0) : ∀ i < x.rank, u i = 0 := by
  intro i
  induction i using Nat.strong_induction_on with
  | _ i ih =>
    intro hi
    have hcolumn : combination p x.rank u (Matrix.entry x.matrix) i = gfMul p (u i) (Matrix.entry x.matrix i i) := by
      refine xorSum_eq_single _ _ i hi fun k hk hki => ?_
      rcases Nat.lt_or_gt_of_ne hki with hlt | hgt
      · rw [ih k hlt hk]
        exact gfMul_zero_left p _
      · rw [hok.entry_below_diagonal (hk.trans_le hok.1) hgt]
        exact gfMul_zero_right p _
    obtain ⟨-, -, haccepted, -⟩ := hok
    exact ((gfMul_eq_zero_iff p hp _ _).1 (hcolumn.symm.trans (h i hi))).resolve_right (haccepted i hi).2

/-- A combination of accepted rows that is zero before column rank is zero in every column. -/
theorem Gen.Ok.combination_eq_zero {n : Nat} {x : Gen} (hok : x.Ok n) (u : Nat → Byte)
    (h : ∀ j < x.rank, combination p x.rank u (Matrix.entry x.matrix) j = 0) (j : Nat) :
    combination p x.rank u (Matrix.entry x.matrix) j = 0 := by
  refine xorSum_eq_zero _ _ fun i hi => ?_
  rw [hok.coeffs_eq_zero p hp u h i hi]
  exact gfMul_zero_left p _

end

/-! ### Redundant candidates -/

/-- The candidate's row is a combination of the accepted rows of generation g. -/
def Candidate.Redundant (p : BitVec 9) (ses : Session) (g : Nat) (x : Candidate) : Prop :=
  ∃ u : Nat → Byte, ∀ j < ses.blocksOf g,
    x.v.getD j 0 = combination p (ses.gen g).rank u (Matrix.entry (ses.gen g).matrix) j

section
variable (p : BitVec 9) (ses : Session) (m : Memory) (g : Nat) (x : Candidate) (hp : p ∈ Config.legalPolys)
  (hok : (ses.gen g).Ok (ses.blocksOf g)) (hx : x.Sized ses g)
include hp hok hx

/-- A reduction by an accepted row adds to that row's coefficient only. -/
theorem Candidate.Redundant.reduce (h : x.Redundant p ses g) (k : Nat) (hk : k < (ses.gen g).rank) :
    (x.reduce p ses m g k).Redundant p ses g := by
  obtain ⟨u, hu⟩ := h
  obtain ⟨hrank, hsq, -⟩ := hok
  refine ⟨fun i => u i ^^^ gfMul p (gfDiv p (x.v.getD k 0) (Matrix.entry (ses.gen g).matrix k k)) (unitCoeffs k i),
    fun j hj => ?_⟩
  rw [x.getD_reduce p ses m g k hsq (hk.trans_le hrank) hx, combination_addmul p hp,
    combination_unitCoeffs p hp _ k hk, hu j hj]

theorem Candidate.Redundant.reduceBelow (h : x.Redundant p ses g) (k : Nat) (hk : k ≤ (ses.gen g).rank) :
    (x.reduceBelow p ses m g k).Redundant p ses g := by
  induction k with
  | zero => exact h
  | succ k ih =>
    rw [Candidate.reduceBelow_succ]
    exact (ih (Nat.le_of_succ_le hk)).reduce p ses m g _ hp hok
      (hx.reduceBelow p ses m g x hok k (Nat.le_of_succ_le hk)) k hk

/-- The reduction of a redundant candidate leaves zero on the diagonal too. -/
theorem Candidate.Redundant.getD_reduceBelow_rank (h : x.Redundant p ses g) (hr : (ses.gen g).rank < ses.blocksOf g) :
    (x.reduceBelow p ses m g (ses.gen g).rank).v.getD (ses.gen g).rank 0 = 0 := by
  obtain ⟨u, hu⟩ := h.reduceBelow p ses m g x hp hok hx _ (Nat.le_refl _)
  have hcleared := Candidate.getD_reduceBelow p ses m g x hok hx hp _ (Nat.le_refl _)
  exact (hu _ hr).trans (hok.combination_eq_zero p hp u
    (fun j hj => (hu j (hj.trans hr)).symm.trans (hcleared j hj)) _)

end

/-! ### Which packets are rejected -/

theorem State.getD_packet (s : State) (ses : Session) (g j : Nat) (hj : j < ses.blocksOf g) :
    (s.packet ses g).v.getD j 0 = s.cstg.read j := by
  rw [State.packet, State.packetCoeffs, Memory.getD_readBytes _ _ _ _ hj, Nat.zero_add]

/-- With rank 0 there is nothing to reduce by. -/
theorem State.reducedPacket_eq_packet (s : State) (ses : Session) (g : Nat) (hr : (ses.gen g).rank = 0) :
    s.reducedPacket ses g = s.packet ses g := by
  rw [State.reducedPacket, hr]
  rfl

theorem State.getD_reducedPacket_rank_of_redundant (s : State) (ses : Session) (g : Nat)
    (hp : s.params.gfPoly ∈ Config.legalPolys) (hok : (ses.gen g).Ok (ses.blocksOf g))
    (hr : (ses.gen g).rank < ses.blocksOf g) (h : (s.packet ses g).Redundant s.params.gfPoly ses g) :
    (s.reducedPacket ses g).v.getD (ses.gen g).rank 0 = 0 :=
  h.getD_reduceBelow_rank _ _ _ _ _ hp hok (s.packet_sized ses g) hr

/-- Settles O31: reduction keeps the packet a combination of accepted rows and clears it before the diagonal, so it is
zero on the diagonal too. -/
theorem redundantPacketsAreRejected : Obligations.RedundantPacketsAreRejected := by
  rintro s ses g u hs hlegal hm hses rfl hg hblocks hsize hr hcombination
  have hstore := storeEqualsItsSingleRowForm s ses hs hlegal hm hses hg hblocks hsize hr
  obtain ⟨-, -, hgens⟩ := hses
  have hzero := s.getD_reducedPacket_rank_of_redundant ses _ hlegal.1 (hgens _ hg).1 hr
    ⟨u, fun j hj => (s.getD_packet ses _ j hj).trans (hcombination j hj)⟩
  rw [hstore, singleRowStore_eq, if_neg (not_not.2 hzero)]
  rfl

/-- Every generation of a valid configuration has a block (R210, R213). -/
theorem Session.Ok.blocksOf_pos {p : Config.Params} {ses : Session} (h : ses.Ok p) (g : Nat) : 0 < ses.blocksOf g := by
  obtain ⟨hvalid, -⟩ := h
  obtain ⟨hbs, hbpg, hlen⟩ := validConfig_pos hvalid
  exact (Partition.genBlocksOf_bounds _ _ _ g hbs hbpg hlen).1

/-- Settles O32: the packet is not reduced, so the rank test is on its first coefficient. -/
theorem firstPacketNeedsANonzeroFirstCoefficient : Obligations.FirstPacketNeedsANonzeroFirstCoefficient := by
  rintro s ses g hs hlegal hm hses rfl hg hblocks hsize hr
  have hpos := hses.blocksOf_pos s.pktGen.toNat
  have hstore := storeEqualsItsSingleRowForm s ses hs hlegal hm hses hg hblocks hsize (hr ▸ hpos)
  rw [singleRowStore_eq, s.reducedPacket_eq_packet ses _ hr, hr, s.getD_packet ses _ 0 hpos] at hstore
  by_cases hfirst : s.cstg.read 0 = 0
  · rw [if_neg (not_not.2 hfirst), setBlk_eq_setSession s ses _ hs] at hstore
    refine ⟨ses, s.blkWithPacket ses s.pktGen.toNat, ?_, ?_⟩
    · rw [hstore, bne_eq_false_iff_eq.2 hfirst]
      rfl
    · rw [if_pos hfirst, hr]
  · rw [if_pos hfirst] at hstore
    refine ⟨s.acceptedSession ses s.pktGen.toNat, s.acceptedBlk ses s.pktGen.toNat, ?_, ?_⟩
    · rw [hstore, bne_iff_ne.2 hfirst]
      rfl
    · obtain ⟨-, hcount, -⟩ := hses
      rw [if_neg hfirst, State.acceptedSession, Session.gen_setGen_same _ _ _ (hcount ▸ hg), hr]

end Sys2Proof.Machine
end

section
/-! SUPPORT. Back substitution (R271): each slot of a generation holds a combination of the original blocks, and the
operations on blocks are operations on its coefficients. Subtracting the later blocks, which are solved, leaves row i
its diagonal coefficient only, and the division leaves original block i. -/

namespace Sys2Proof.Machine

/-! ### What back substitution writes -/

theorem length_rowDiv (p : BitVec 9) (row : List Byte) (d : Byte) : (rowDiv p row d).length = row.length :=
  List.length_map _

theorem getD_rowDiv (p : BitVec 9) (row : List Byte) (d : Byte) (b : Nat) :
    (rowDiv p row d).getD b 0 = gfDiv p (row.getD b 0) d :=
  (congrArg (List.getD _ b) (gfDiv_zero_left p d).symm).trans (List.getD_map row 0 (gfDiv p · d))

section
variable (p : BitVec 9) (ses : Session) (g : Nat)

/-- One step of the back substitution: `M[i][j] * Blk(g, j)` is subtracted from row i (R271). -/
def subtractBlock (i : Nat) (m : Memory) (j : Nat) : Memory :=
  ses.writeBlk m g i
    (rowAddmul p (Matrix.entry (ses.gen g).matrix i j) (ses.readBlk m g i) (ses.readBlk m g j))

theorem subtractLater_eq (m : Memory) (i : Nat) : subtractLater p ses g m i =
    (List.range' (i + 1) (ses.blocksOf g - (i + 1))).foldl (subtractBlock p ses g i) m := rfl

theorem length_subtractBlock (m : Memory) (i j : Nat) :
    (rowAddmul p (Matrix.entry (ses.gen g).matrix i j) (ses.readBlk m g i) (ses.readBlk m g j)).length
      = ses.blockSize := by
  rw [length_rowAddmul _ _ _ _ (by simp only [Session.length_readBlk]), Session.length_readBlk]

/-- What every write of a block to slot i keeps, row i of the back substitution keeps. -/
theorem solveRow_induction (P : Memory → Prop) (i : Nat)
    (hwrite : ∀ m v, P m → v.length = ses.blockSize → P (ses.writeBlk m g i v)) (m : Memory) (h : P m) :
    P (solveRow p ses g m i) :=
  hwrite _ _ (List.foldlRecOn _ _ h fun m hm j _ => hwrite m _ hm (length_subtractBlock p ses g m i j))
    ((length_rowDiv _ _ _).trans (ses.length_readBlk _ g i))

/-- What every write of a block to a slot of generation g keeps, its back substitution keeps. -/
theorem backSubstitute_induction (P : Memory → Prop)
    (hwrite : ∀ m i v, P m → i < ses.blocksOf g → v.length = ses.blockSize → P (ses.writeBlk m g i v)) (m : Memory)
    (h : P m) : P (backSubstitute p ses g m) :=
  List.foldlRecOn _ _ h fun m hm i hi => solveRow_induction p ses g P i
    (fun m v hm => hwrite m i v hm (List.mem_range.1 (List.mem_reverse.1 hi))) m hm

theorem subtractLater_wf (m : Memory) (i : Nat) (hm : m.wf = true) : (subtractLater p ses g m i).wf = true :=
  List.foldlRecOn (motive := fun m => m.wf = true) _ _ hm fun m hm _ _ => ses.writeBlk_wf m g i _ hm

theorem solveRow_wf (m : Memory) (i : Nat) (hm : m.wf = true) : (solveRow p ses g m i).wf = true :=
  solveRow_induction p ses g (fun m => m.wf = true) i (fun m v hm _ => ses.writeBlk_wf m g i v hm) m hm

theorem backSubstitute_wf (m : Memory) (hm : m.wf = true) : (backSubstitute p ses g m).wf = true :=
  backSubstitute_induction p ses g (fun m => m.wf = true) (fun m i v hm _ _ => ses.writeBlk_wf m g i v hm) m hm

/-- Offset `a` lies in no slot of generation g. -/
def Session.Outside (a : Nat) : Prop :=
  ∀ i < ses.blocksOf g, a < ses.slotOffset g i ∨ ses.slotOffset g i + ses.blockSize ≤ a

/-- Back substitution writes in the slots of its generation only (R89, R271). -/
theorem read_backSubstitute_outside (m : Memory) (a : Nat) (h : ses.Outside g a) :
    (backSubstitute p ses g m).read a = m.read a :=
  backSubstitute_induction p ses g (fun m' => m'.read a = m.read a)
    (fun m' i v hm' hi hv => (ses.read_writeBlk_outside m' g i v hv a (h i hi)).trans hm') m rfl

end

/-! ### The combination a slot holds -/

/-- Slot i of generation g holds the combination of the original blocks with coefficients `c` (R44 item 4). -/
def Session.SlotHolds (p : BitVec 9) (ses : Session) (m : Memory) (g : Nat) (orig : Nat → Nat → Byte) (i : Nat)
    (c : Nat → Byte) : Prop :=
  ∀ b < ses.blockSize, m.read (ses.slotOffset g i + b) = combination p (ses.blocksOf g) c orig b

namespace Session.SlotHolds

variable {p : BitVec 9} {ses : Session} {m : Memory} {g : Nat} {orig : Nat → Nat → Byte} {i : Nat} {c : Nat → Byte}

theorem congr (h : ses.SlotHolds p m g orig i c) (d : Nat → Byte) (hcd : ∀ j < ses.blocksOf g, c j = d j) :
    ses.SlotHolds p m g orig i d :=
  fun b hb => (h b hb).trans (combination_congr p _ c d orig b hcd)

theorem getD_readBlk (h : ses.SlotHolds p m g orig i c) (b : Nat) (hb : b < ses.blockSize) :
    (ses.readBlk m g i).getD b 0 = combination p (ses.blocksOf g) c orig b :=
  (ses.getD_readBlk m g i b hb).trans (h b hb)

/-- A block written to a slot is what the slot holds. -/
theorem of_writeBlk (hm : m.wf = true) (v : List Byte) (hv : v.length = ses.blockSize)
    (h : ∀ b < ses.blockSize, v.getD b 0 = combination p (ses.blocksOf g) c orig b) :
    ses.SlotHolds p (ses.writeBlk m g i v) g orig i c := fun b hb => by
  rw [← ses.getD_readBlk _ _ _ _ hb, ses.readBlk_writeBlk_same m g i v hm hv, h b hb]

theorem writeBlk_other (h : ses.SlotHolds p m g orig i c) (k : Nat) (hik : i ≠ k) (v : List Byte)
    (hv : v.length = ses.blockSize) : ses.SlotHolds p (ses.writeBlk m g k v) g orig i c := fun b hb =>
  (ses.read_writeBlk_outside m g k v hv _ (slot_outside ses g i k b hik hb)).trans (h b hb)

theorem solveRow_other (h : ses.SlotHolds p m g orig i c) (k : Nat) (hik : i ≠ k) :
    ses.SlotHolds p (solveRow p ses g m k) g orig i c :=
  solveRow_induction p ses g (fun m => ses.SlotHolds p m g orig i c) k (fun _ v h hv => h.writeBlk_other k hik v hv) m h

variable (hp : p ∈ Config.legalPolys)
include hp

/-- Coefficients that pick block i give its bytes. -/
theorem read_of_unitCoeffs (h : ses.SlotHolds p m g orig i (unitCoeffs i)) (hi : i < ses.blocksOf g) (b : Nat)
    (hb : b < ses.blockSize) : m.read (ses.slotOffset g i + b) = orig i b :=
  (h b hb).trans (combination_unitCoeffs p hp _ i hi orig b)

variable (hm : m.wf = true)
include hm

/-- Subtracting a multiple of a solved block j changes coefficient j only. -/
theorem subtractBlock (h : ses.SlotHolds p m g orig i c) (j : Nat)
    (hj : ses.SlotHolds p m g orig j (unitCoeffs j)) :
    ses.SlotHolds p (subtractBlock p ses g i m j) g orig i
      (fun l => c l ^^^ gfMul p (Matrix.entry (ses.gen g).matrix i j) (unitCoeffs j l)) := by
  refine of_writeBlk hm _ (length_subtractBlock p ses g m i j) fun b hb => ?_
  rw [getD_rowAddmul _ _ _ _ (by simp only [Session.length_readBlk]), h.getD_readBlk b hb, hj.getD_readBlk b hb,
    combination_addmul p hp]

/-- After the subtraction of solved blocks, no two the same, the coefficients of each have been added once. -/
theorem foldl_subtractBlock (js : List Nat) (hnodup : js.Nodup) (hi : i ∉ js) (h : ses.SlotHolds p m g orig i c)
    (hjs : ∀ j ∈ js, ses.SlotHolds p m g orig j (unitCoeffs j)) :
    ses.SlotHolds p (js.foldl (Machine.subtractBlock p ses g i) m) g orig i
      (fun l => if l ∈ js then c l ^^^ Matrix.entry (ses.gen g).matrix i l else c l) := by
  induction js generalizing m c with
  | nil => exact h.congr _ fun l _ => (if_neg List.not_mem_nil).symm
  | cons j js ih =>
    obtain ⟨hj, hnodup⟩ := List.nodup_cons.1 hnodup
    obtain ⟨hij, hi⟩ := List.ne_and_not_mem_of_not_mem_cons hi
    have hstep := h.subtractBlock hp hm j (hjs j List.mem_cons_self)
    have hrest : ∀ k ∈ js, ses.SlotHolds p (Machine.subtractBlock p ses g i m j) g orig k (unitCoeffs k) :=
      fun k hk => (hjs k (List.mem_cons_of_mem j hk)).writeBlk_other i (fun hki => hi (hki ▸ hk)) _
        (length_subtractBlock p ses g m i j)
    refine (ih (ses.writeBlk_wf _ _ _ _ hm) hnodup hi hstep hrest).congr _ fun l _ => ?_
    by_cases hl : l = j
    · subst hl
      rw [if_neg hj, if_pos List.mem_cons_self, unitCoeffs, if_pos rfl, gfMul_comm]
      exact congrArg (c l ^^^ ·) (gfMul_one_left p hp _)
    · simp [unitCoeffs, hl]

/-- Division by a common nonzero factor of the coefficients leaves the other factors. -/
theorem rowDiv (d : Byte) (hd : d ≠ 0) (h : ses.SlotHolds p m g orig i (fun l => gfMul p d (c l))) :
    ses.SlotHolds p (ses.writeBlk m g i (Machine.rowDiv p (ses.readBlk m g i) d)) g orig i c := by
  refine of_writeBlk hm _ ((length_rowDiv _ _ _).trans (ses.length_readBlk m g i)) fun b hb => ?_
  rw [getD_rowDiv, h.getD_readBlk b hb]
  refine gfMul_right_cancel p hp _ _ d hd ?_
  rw [gfMul_gfDiv_cancel p hp _ _ hd, gfMul_comm p _ d]
  simp only [combination, gfMul_assoc p hp, gfMul_xorSum p hp]

end Session.SlotHolds

/-! ### Back substitution recovers the original blocks -/

/-- The rows of generation g from row k on are solved, and those before it are still combinations by the matrix. -/
def Session.SolvedFrom (p : BitVec 9) (ses : Session) (m : Memory) (g : Nat) (orig : Nat → Nat → Byte) (k : Nat) :
    Prop :=
  ∀ i < ses.blocksOf g, ses.SlotHolds p m g orig i (if i < k then Matrix.entry (ses.gen g).matrix i else unitCoeffs i)

section
variable (p : BitVec 9) (ses : Session) (g : Nat) (orig : Nat → Nat → Byte) (hp : p ∈ Config.legalPolys)
  (hok : (ses.gen g).Ok (ses.blocksOf g))
include hp hok

/-- With the later rows solved, row i loses its coefficients after the diagonal and has none before it. -/
theorem subtractLater_slotHolds (m : Memory) (i : Nat) (hm : m.wf = true) (hi : i < ses.blocksOf g)
    (hrow : ses.SlotHolds p m g orig i (Matrix.entry (ses.gen g).matrix i))
    (hlater : ∀ j < ses.blocksOf g, i < j → ses.SlotHolds p m g orig j (unitCoeffs j)) :
    ses.SlotHolds p (subtractLater p ses g m i) g orig i
      (fun j => gfMul p (Matrix.entry (ses.gen g).matrix i i) (unitCoeffs i j)) := by
  have hmem : ∀ j, j ∈ List.range' (i + 1) (ses.blocksOf g - (i + 1)) ↔ i < j ∧ j < ses.blocksOf g := by
    intro j
    rw [List.mem_range'_1]
    omega
  refine (hrow.foldl_subtractBlock hp hm _ List.nodup_range' (fun h => (((hmem i).1 h).1).false) fun j hj =>
    hlater j ((hmem j).1 hj).2 ((hmem j).1 hj).1).congr _ fun j hj => ?_
  rcases Nat.lt_trichotomy j i with hlt | rfl | hgt
  · rw [if_neg fun h => hlt.not_gt ((hmem j).1 h).1, hok.entry_below_diagonal hi hlt, unitCoeffs, if_neg hlt.ne]
    exact (gfMul_zero_right p _).symm
  · rw [if_neg fun h => (((hmem j).1 h).1).false, unitCoeffs, if_pos rfl, gfMul_comm]
    exact (gfMul_one_left p hp _).symm
  · rw [if_pos ((hmem j).2 ⟨hgt, hj⟩), BitVec.xor_self, unitCoeffs, if_neg hgt.ne']
    exact (gfMul_zero_right p _).symm

variable (hr : (ses.gen g).rank = ses.blocksOf g)
include hr

theorem solveRow_slotHolds_same (m : Memory) (i : Nat) (hm : m.wf = true) (hi : i < ses.blocksOf g)
    (hrow : ses.SlotHolds p m g orig i (Matrix.entry (ses.gen g).matrix i))
    (hlater : ∀ j < ses.blocksOf g, i < j → ses.SlotHolds p m g orig j (unitCoeffs j)) :
    ses.SlotHolds p (solveRow p ses g m i) g orig i (unitCoeffs i) := by
  have hsub := subtractLater_slotHolds p ses g orig hp hok m i hm hi hrow hlater
  obtain ⟨-, -, haccepted, -⟩ := hok
  exact hsub.rowDiv hp (subtractLater_wf p ses g m i hm) _ (haccepted i (hr ▸ hi)).2

/-- Row i is the next one to be solved. -/
theorem Session.SolvedFrom.solveRow (m : Memory) (i : Nat) (hm : m.wf = true) (hi : i < ses.blocksOf g)
    (h : ses.SolvedFrom p m g orig (i + 1)) : ses.SolvedFrom p (solveRow p ses g m i) g orig i := by
  intro l hl
  rcases Nat.lt_trichotomy l i with hlt | rfl | hgt
  · have hrow := h l hl
    rw [if_pos (hlt.trans i.lt_succ_self)] at hrow
    rw [if_pos hlt]
    exact hrow.solveRow_other i hlt.ne
  · have hrow := h l hl
    rw [if_pos l.lt_succ_self] at hrow
    rw [if_neg (Nat.lt_irrefl l)]
    refine solveRow_slotHolds_same p ses g orig hp hok hr m l hm hl hrow fun j hj hlj => ?_
    have hlater := h j hj
    rwa [if_neg (Nat.not_lt.2 hlj)] at hlater
  · have hrow := h l hl
    rw [if_neg (Nat.not_lt.2 hgt)] at hrow
    rw [if_neg hgt.not_gt]
    exact hrow.solveRow_other i hgt.ne'

/-- The rows below k, taken from the last one down, are solved one after the other (R271). -/
theorem Session.SolvedFrom.foldl_solveRow (m : Memory) (k : Nat) (hm : m.wf = true) (hk : k ≤ ses.blocksOf g)
    (h : ses.SolvedFrom p m g orig k) :
    ses.SolvedFrom p ((List.range k).reverse.foldl (Machine.solveRow p ses g) m) g orig 0 := by
  induction k generalizing m with
  | zero => exact h
  | succ k ih =>
    rw [List.range_succ, List.reverse_append, List.reverse_singleton, List.singleton_append, List.foldl_cons]
    exact ih _ (solveRow_wf p ses g m k hm) (Nat.le_of_succ_le hk) (h.solveRow p ses g orig hp hok hr m k hm hk)

/-- Back substitution of a complete generation whose rows are consistent puts original block i into slot i (R271,
R274 item 2). -/
theorem read_backSubstitute_slot (m : Memory) (hm : m.wf = true) (hrows : ses.Consistent p m g orig) (i : Nat)
    (hi : i < ses.blocksOf g) (b : Nat) (hb : b < ses.blockSize) :
    (backSubstitute p ses g m).read (ses.slotOffset g i + b) = orig i b := by
  have hstart : ses.SolvedFrom p m g orig (ses.blocksOf g) := fun i hi => by
    rw [if_pos hi]
    exact hrows i (hr ▸ hi)
  exact (hstart.foldl_solveRow p ses g orig hp hok hr m _ hm le_rfl i hi).read_of_unitCoeffs hp hi b hb

end

end Sys2Proof.Machine
end

section
/-! SUPPORT. Proofs of the statements on spec/44_decode.md: DECODE_GEN by the cases of decode_gen (R270), and DECODE_ALL
by what holds after each generation it has attempted (R273). -/

namespace Sys2Proof.Machine

/-! ### The cases of decode_gen -/

section
variable (p : BitVec 9) (ses : Session) (m : Memory) (g : Nat)

theorem decodeOne_outOfRange (h : ses.numGenerations ≤ g) :
    decodeOne p ses m g = { ok := false, session := ses, blk := m } := if_pos h

variable (hg : g < ses.numGenerations)
include hg

theorem decodeOne_decoded (hd : (ses.gen g).decoded = true) :
    decodeOne p ses m g = { ok := true, session := ses, blk := m } := by
  rw [decodeOne, if_neg hg.not_ge, if_pos hd]

variable (hd : (ses.gen g).decoded = false)
include hd

theorem decodeOne_incomplete (hr : (ses.gen g).rank < ses.blocksOf g) :
    decodeOne p ses m g = { ok := false, session := ses, blk := m } := by
  rw [decodeOne, if_neg hg.not_ge, if_neg (Bool.not_eq_true _ ▸ hd), if_pos hr]

theorem decodeOne_complete (hr : ses.blocksOf g ≤ (ses.gen g).rank) :
    decodeOne p ses m g = { ok := true, session := ses.finalize g, blk := backSubstitute p ses g m } := by
  rw [decodeOne, if_neg hg.not_ge, if_neg (Bool.not_eq_true _ ▸ hd), if_neg hr.not_gt]

end

namespace Session

theorem gen_finalize_same (ses : Session) (g : Nat) (hg : g < ses.gens.length) :
    (ses.finalize g).gen g =
      { rank := (ses.gen g).rank, decoded := true, matrix := Matrix.identity (ses.blocksOf g) } :=
  ses.gen_setGen_same g _ hg

theorem gen_finalize_other (ses : Session) (g h : Nat) (hne : h ≠ g) : (ses.finalize g).gen h = ses.gen h :=
  ses.gen_setGen_other g h _ hne

end Session

/-! ### DECODE_GEN -/

theorem exec_decodeGen_eq (s : State) (ses : Session) (hs : s.session = some ses) : exec .decodeGen s =
    .next (s.finishDecoding (decodeOne s.params.gfPoly ses s.blk s.arg0.toNat)) :=
  congrArg Host.Outcome.next (s.withSession_some _ ses hs)

/-- A decode that leaves the session and BLK as they are changes nothing but STATUS. -/
theorem finishDecoding_unchanged (s : State) (ses : Session) (ok : Bool) (hs : s.session = some ses) :
    s.finishDecoding { ok := ok, session := ses, blk := s.blk } = s.finish ok :=
  congrArg (State.finish ok) (setSession_self s ses hs)

/-- Settles O34: the first three cases of decode_gen leave the session and BLK as they are. -/
theorem decodeGenWithoutWorkWritesNothing : Obligations.DecodeGenWithoutWorkWritesNothing := by
  intro s ses hs
  rw [exec_decodeGen_eq s ses hs]
  refine ⟨fun hg => ?_, fun hg hd => ?_, fun hg hd hr => ?_⟩
  · rw [decodeOne_outOfRange _ ses _ _ hg, finishDecoding_unchanged s ses _ hs]
  · rw [decodeOne_decoded _ ses _ _ hg hd, finishDecoding_unchanged s ses _ hs]
  · rw [decodeOne_incomplete _ ses _ _ hg hd hr, finishDecoding_unchanged s ses _ hs]

/-- Settles O35: DECODE_GEN finalizes the generation, and back substitution recovers its blocks. -/
theorem decodeGenRecoversTheOriginalBlocks : Obligations.DecodeGenRecoversTheOriginalBlocks := by
  rintro s ses _ orig hs hlegal hm ⟨-, hcount, hgens⟩ rfl hg hd hr hrows
  obtain ⟨hok, -⟩ := hgens _ hg
  have hgen := ses.gen_finalize_same s.arg0.toNat (hcount ▸ hg)
  refine ⟨ses.finalize s.arg0.toNat, backSubstitute s.params.gfPoly ses s.arg0.toNat s.blk, ?_,
    read_backSubstitute_slot _ ses _ orig hlegal.1 hok hr s.blk hm hrows, read_backSubstitute_outside _ ses _ s.blk, ?_⟩
  · rw [exec_decodeGen_eq s ses hs, decodeOne_complete _ ses _ _ hg hd hr.ge]
    rfl
  · rw [hgen]
    exact ⟨rfl, hr, rfl, fun h hne => ses.gen_finalize_other _ h hne, rfl⟩

/-- After a decode_gen that gave 1 the generation is decoded, so a second one has nothing to do (R274 item 1). -/
theorem decodeOne_again (p : BitVec 9) (ses : Session) (m : Memory) (g : Nat)
    (hcount : ses.gens.length = ses.numGenerations) (d : Decoding) (h : decodeOne p ses m g = d) (hok : d.ok = true) :
    decodeOne p d.session d.blk g = d := by
  subst h
  rcases Nat.lt_or_ge g ses.numGenerations with hg | hg
  · cases hd : (ses.gen g).decoded with
    | true => simp only [decodeOne_decoded p ses _ g hg hd]
    | false =>
      rcases Nat.lt_or_ge (ses.gen g).rank (ses.blocksOf g) with hr | hr
      · rw [decodeOne_incomplete p ses m g hg hd hr] at hok
        exact absurd hok Bool.false_ne_true
      · rw [decodeOne_complete p ses m g hg hd hr]
        exact decodeOne_decoded p _ _ g hg (by rw [ses.gen_finalize_same g (hcount ▸ hg)])
  · rw [decodeOne_outOfRange p ses m g hg] at hok
    exact absurd hok Bool.false_ne_true

/-- Settles O36: the second decode_gen answers the outcome of the first, which is written already. -/
theorem decodeGenIsIdempotent : Obligations.DecodeGenIsIdempotent := by
  intro s t ses hs hcount ht hresult
  obtain rfl := Host.Outcome.next.inj ((exec_decodeGen_eq s ses hs).symm.trans ht)
  have hagain := decodeOne_again s.params.gfPoly ses s.blk s.arg0.toNat hcount _ rfl hresult
  rw [exec_decodeGen_eq _ _ rfl]
  exact congrArg (fun d => Host.Outcome.next (State.finishDecoding d _)) hagain

/-! ### Generations apart -/

/-- The slots of a generation lie outside those of any other. -/
theorem Session.outside_of_slot (ses : Session) (hb : 0 < ses.blockSize) (hbpg : 0 < ses.blocksPerGen)
    (hl : 0 < ses.dataLength) (g k i b : Nat) (hgk : g ≠ k) (hi : i < ses.blocksOf g) (hbs : b < ses.blockSize) :
    ses.Outside k (ses.slotOffset g i + b) := by
  intro j hj
  have hne : ses.blocksPerGen * g + i ≠ ses.blocksPerGen * k + j := fun heq => by
    have hg := (Partition.generation_and_row_unique _ _ _ g i hb hbpg hl hi).1
    have hk := (Partition.generation_and_row_unique _ _ _ k j hb hbpg hl hj).1
    exact hgk (by rw [hg, hk, heq])
  rcases Nat.lt_or_gt_of_ne hne with hlt | hgt
  · have := ses.slots_disjoint g i k j hlt
    omega
  · have := ses.slots_disjoint k j g i hgt
    omega

/-- Offsets beyond the session buffer lie outside the slots of every generation (R90). -/
theorem Session.outside_of_bufferSize_le (ses : Session) (hb : 0 < ses.blockSize) (hbpg : 0 < ses.blocksPerGen)
    (hl : 0 < ses.dataLength) (g a : Nat) (hg : g < ses.numGenerations) (ha : ses.bufferSize ≤ a) :
    ses.Outside g a :=
  fun i hi => .inr ((ses.slot_within g i hb hbpg hl hg hi).trans ha)

namespace Session.Continues

variable {ses ses' : Session} (h : ses.Continues ses') (p : BitVec 9) (g : Nat)
include h

theorem numGenerations_eq : ses'.numGenerations = ses.numGenerations := by
  rw [h.geometry]
  rfl

theorem blocksOf_eq : ses'.blocksOf g = ses.blocksOf g := by
  rw [h.geometry]
  rfl

variable (hgen : ses'.gen g = ses.gen g)
include hgen

theorem solveRow_eq (m : Memory) (i : Nat) : solveRow p ses' g m i = solveRow p ses g m i := by
  simp only [solveRow, subtractLater, hgen]
  rw [h.geometry]
  rfl

/-- Back substitution depends on the geometry and on its own generation only. -/
theorem backSubstitute_eq (m : Memory) : backSubstitute p ses' g m = backSubstitute p ses g m := by
  have hrow : solveRow p ses' g = solveRow p ses g := funext₂ (h.solveRow_eq p g hgen)
  rw [backSubstitute, hrow, h.blocksOf_eq, backSubstitute]

end Session.Continues

/-! ### DECODE_ALL -/

/-- A generation of n blocks after its decode (R272). -/
def Gen.solved (n : Nat) : Gen := { rank := n, decoded := true, matrix := Matrix.identity n }

theorem Gen.Ok.eq_solved {n : Nat} {x : Gen} (hok : x.Ok n) (hd : x.decoded = true) : x = Gen.solved n := by
  obtain ⟨-, -, -, -, hdecoded⟩ := hok
  obtain ⟨hrank, hmatrix⟩ := hdecoded hd
  obtain ⟨rank, decoded, matrix⟩ := x
  exact (Gen.mk.injEq ..).mpr ⟨hrank, hd, hmatrix⟩

theorem Session.gen_finalize_complete (ses : Session) (g : Nat) (hg : g < ses.gens.length)
    (hr : (ses.gen g).rank = ses.blocksOf g) : (ses.finalize g).gen g = Gen.solved (ses.blocksOf g) := by
  rw [ses.gen_finalize_same g hg, hr, Gen.solved]

/-- Generation g is complete and not decoded, so that decode_gen has work to do (R270). -/
def Session.Pending (ses : Session) (g : Nat) : Prop :=
  (ses.gen g).rank = ses.blocksOf g ∧ (ses.gen g).decoded = false

/-- What DECODE_ALL has reached from session `ses` and BLK `m` once it has attempted the generations below k (R273). -/
structure Decoding.Attempted (p : BitVec 9) (ses : Session) (m : Memory) (k : Nat) (d : Decoding) : Prop where
  wf : d.blk.wf = true
  continues : ses.Continues d.session
  ok_iff : d.ok = true ↔ ∀ g < k, (ses.gen g).rank = ses.blocksOf g
  solved : ∀ g < k, (ses.gen g).rank = ses.blocksOf g → d.session.gen g = Gen.solved (ses.blocksOf g)
  kept : ∀ g, k ≤ g ∨ (ses.gen g).rank ≠ ses.blocksOf g → d.session.gen g = ses.gen g
  untouched : ∀ a, (∀ g < k, ses.Pending g → ses.Outside g a) → d.blk.read a = m.read a
  recovered : ∀ g < k, ses.Pending g → ∀ orig, ses.Consistent p m g orig →
    ∀ i < ses.blocksOf g, ∀ o < ses.blockSize, d.blk.read (ses.slotOffset g i + o) = orig i o

namespace Decoding.Attempted

variable {p : BitVec 9} {ses : Session} {m : Memory} {k : Nat} {d : Decoding} (h : d.Attempted p ses m k)

theorem start (p : BitVec 9) (ses : Session) (m : Memory) (hm : m.wf = true) :
    Attempted p ses m 0 { ok := true, session := ses, blk := m } where
  wf := hm
  continues := .refl ses
  ok_iff := ⟨fun _ g hg => absurd hg (Nat.not_lt_zero g), fun _ => rfl⟩
  solved g hg := absurd hg (Nat.not_lt_zero g)
  kept _ _ := rfl
  untouched _ _ := rfl
  recovered g hg := absurd hg (Nat.not_lt_zero g)

include h

theorem gen_next : d.session.gen k = ses.gen k := h.kept k (.inl le_rfl)

theorem ok_iff_succ (ok : Bool) (hok : ok = true ↔ (ses.gen k).rank = ses.blocksOf k) :
    (d.ok && ok) = true ↔ ∀ g < k + 1, (ses.gen g).rank = ses.blocksOf g := by
  rw [Nat.forall_lt_succ_right, Bool.and_eq_true, h.ok_iff, hok]

/-- An attempt on a generation that is decoded or incomplete leaves the session and BLK. -/
theorem skip (ok : Bool) (hok : ok = true ↔ (ses.gen k).rank = ses.blocksOf k)
    (hsolved : (ses.gen k).rank = ses.blocksOf k → ses.gen k = Gen.solved (ses.blocksOf k)) :
    Attempted p ses m (k + 1) { ok := d.ok && ok, session := d.session, blk := d.blk } where
  wf := h.wf
  continues := h.continues
  ok_iff := h.ok_iff_succ ok hok
  solved g hg hr := by
    rcases Nat.lt_succ_iff_lt_or_eq.1 hg with hlt | rfl
    · exact h.solved g hlt hr
    · exact h.gen_next.trans (hsolved hr)
  kept g hg := h.kept g (hg.imp_left Nat.le_of_succ_le)
  untouched a ha := h.untouched a fun g hg => ha g (hg.trans k.lt_succ_self)
  recovered g hg hpending := by
    rcases Nat.lt_succ_iff_lt_or_eq.1 hg with hlt | rfl
    · exact h.recovered g hlt hpending
    · obtain ⟨hr, hd⟩ := hpending
      rw [hsolved hr] at hd
      exact Bool.noConfusion hd

variable {params : Config.Params} (hses : ses.Ok params)
include hses

/-- BLK still reads as before in the slots of a generation that is not attempted yet, or has no work to do. -/
theorem read_slot (g i o : Nat) (hg : ¬ (g < k ∧ ses.Pending g)) (hi : i < ses.blocksOf g) (ho : o < ses.blockSize) :
    d.blk.read (ses.slotOffset g i + o) = m.read (ses.slotOffset g i + o) := by
  obtain ⟨hb, hbpg, hl⟩ := validConfig_pos hses.1
  refine h.untouched _ fun j hj hpending => ses.outside_of_slot hb hbpg hl g j i o ?_ hi ho
  rintro rfl
  exact hg ⟨hj, hpending⟩

variable (hk : k < ses.numGenerations) (hp : p ∈ Config.legalPolys)
include hk hp

/-- An attempt on a complete generation that is not decoded finalizes it and writes its slots only. -/
theorem solve (hpending : ses.Pending k) :
    Attempted p ses m (k + 1)
      { ok := d.ok && true, session := d.session.finalize k, blk := backSubstitute p ses k d.blk } := by
  have ⟨hvalid, hcount, hgens⟩ := hses
  obtain ⟨hb, hbpg, hl⟩ := validConfig_pos hvalid
  have ⟨hr, _⟩ := hpending
  exact {
    wf := backSubstitute_wf p ses k d.blk h.wf
    continues := h.continues.setGen k _
    ok_iff := h.ok_iff_succ true ⟨fun _ => hr, fun _ => rfl⟩
    solved := fun g hg hrg => by
      rcases Nat.lt_succ_iff_lt_or_eq.1 hg with hlt | rfl
      · exact (d.session.gen_finalize_other k g hlt.ne).trans (h.solved g hlt hrg)
      · have hlen : g < d.session.gens.length := by rw [h.continues.length, hcount]; exact hk
        rw [d.session.gen_finalize_complete g hlen (by rw [h.gen_next, hr, h.continues.blocksOf_eq]),
          h.continues.blocksOf_eq]
    kept := fun g hg => by
      have hne : g ≠ k := by
        rintro rfl
        exact hg.elim (Nat.not_succ_le_self g) (fun hrg => hrg hr)
      exact (d.session.gen_finalize_other k g hne).trans (h.kept g (hg.imp_left Nat.le_of_succ_le))
    untouched := fun a ha => (read_backSubstitute_outside p ses k d.blk a (ha k k.lt_succ_self hpending)).trans
      (h.untouched a fun g hg => ha g (hg.trans k.lt_succ_self))
    recovered := fun g hg hpg orig hrows i hi o ho => by
      rcases Nat.lt_succ_iff_lt_or_eq.1 hg with hlt | rfl
      · exact (read_backSubstitute_outside p ses k d.blk _
          (ses.outside_of_slot hb hbpg hl g k i o hlt.ne hi ho)).trans (h.recovered g hlt hpg orig hrows i hi o ho)
      · refine read_backSubstitute_slot p ses g orig hp (hgens g hk).1 hr d.blk h.wf (fun j hj b hbs => ?_) i hi o ho
        exact (h.read_slot hses g j b (fun hand => hand.1.false) (hr ▸ hj) hbs).trans (hrows j hj b hbs) }

/-- One more generation attempted, by the cases of decode_gen. -/
theorem next : (decodeNext p d k).Attempted p ses m (k + 1) := by
  have ⟨_, _, hgens⟩ := hses
  obtain ⟨hok, -⟩ := hgens k hk
  have hgen := h.gen_next
  have hk' : k < d.session.numGenerations := h.continues.numGenerations_eq ▸ hk
  cases hd : (ses.gen k).decoded with
  | true =>
    have hsolved := hok.eq_solved hd
    rw [decodeNext, decodeOne_decoded p _ _ k hk' (hgen ▸ hd)]
    exact h.skip true ⟨fun _ => by rw [hsolved, Gen.solved], fun _ => rfl⟩ fun _ => hsolved
  | false =>
    rcases Nat.eq_or_lt_of_le hok.1 with hr | hr
    · rw [decodeNext, decodeOne_complete p _ _ k hk' (hgen ▸ hd) (by rw [hgen, hr, h.continues.blocksOf_eq]),
        h.continues.backSubstitute_eq p k hgen]
      exact h.solve hses hk hp ⟨hr, hd⟩
    · rw [decodeNext, decodeOne_incomplete p _ _ k hk' (hgen ▸ hd) (by rwa [hgen, h.continues.blocksOf_eq])]
      exact h.skip false ⟨fun hf => Bool.noConfusion hf, fun hrk => absurd hrk hr.ne⟩ fun hrk => absurd hrk hr.ne

end Decoding.Attempted

theorem exec_decodeAll_eq (s : State) (ses : Session) (hs : s.session = some ses) :
    exec .decodeAll s = .next (s.finishDecoding (decodeEvery s.params.gfPoly ses s.blk)) :=
  congrArg Host.Outcome.next (s.withSession_some _ ses hs)

/-- DECODE_ALL has attempted every generation of its session (R273). -/
theorem decodeEvery_attempted (p : BitVec 9) (ses : Session) (m : Memory) (params : Config.Params)
    (hp : p ∈ Config.legalPolys) (hses : ses.Ok params) (hm : m.wf = true) :
    (decodeEvery p ses m).Attempted p ses m ses.numGenerations := by
  have hbelow : ∀ k ≤ ses.numGenerations,
      ((List.range k).foldl (decodeNext p) { ok := true, session := ses, blk := m }).Attempted p ses m k := by
    intro k hk
    induction k with
    | zero => exact .start p ses m hm
    | succ k ih =>
      rw [List.range_succ, List.foldl_append]
      exact (ih (Nat.le_of_succ_le hk)).next hses hk hp
  exact hbelow _ le_rfl

/-- Settles O37: what holds once every generation has been attempted. -/
theorem decodeAllAttemptsEveryGeneration : Obligations.DecodeAllAttemptsEveryGeneration := by
  intro s ses hs hlegal hm hses
  have h := decodeEvery_attempted s.params.gfPoly ses s.blk s.params hlegal.1 hses hm
  obtain ⟨hb, hbpg, hl⟩ := validConfig_pos hses.1
  refine ⟨_, _, _, exec_decodeAll_eq s ses hs, h.ok_iff, h.continues.geometry, h.continues.length, fun g hg => ?_,
    fun a ha => h.untouched a fun g hg _ => ses.outside_of_bufferSize_le hb hbpg hl g a hg ha⟩
  refine ⟨?_, fun hr => ?_, fun hr => h.kept g (.inr hr.ne), fun hidle i hi o ho => ?_,
    fun hr hd => h.recovered g hg ⟨hr, hd⟩⟩
  · by_cases hr : (ses.gen g).rank = ses.blocksOf g
    · rw [h.solved g hg hr, hr, Gen.solved]
    · rw [h.kept g (.inr hr)]
  · rw [h.solved g hg hr]
    exact ⟨rfl, rfl⟩
  · refine h.read_slot hses g i o (fun hand => ?_) hi ho
    obtain ⟨-, hr, hd⟩ := hand
    exact hidle.elim (fun hlt => hlt.ne hr) (fun hdec => Bool.noConfusion (hdec.symm.trans hd))

end Sys2Proof.Machine
end

section
/-! SUPPORT. Proofs of the statements on spec/45_encode.md: the draws of the coefficient source (R292, R293), ENCODE by
its branches (R290, R291, R295), what its packets are combinations of (R294), and the hang that only reset ends (R384). -/

namespace Sys2Proof.Machine

/-! ### Draws -/

/-- The first nonzero byte of a queue stands behind zeros only. -/
theorem firstNonzero_eq_some_iff (q rest : List Byte) (b : Byte) :
    firstNonzero q = some (b, rest) ↔ b ≠ 0 ∧ ∃ z, q = List.replicate z 0 ++ b :: rest := by
  induction q with
  | nil => simp [firstNonzero]
  | cons a q ih =>
    rw [firstNonzero]
    split
    · next ha =>
      subst ha
      rw [ih]
      refine and_congr_right fun hb => ⟨fun ⟨z, hz⟩ => ⟨z + 1, by rw [hz]; rfl⟩, fun ⟨z, hz⟩ => ?_⟩
      cases z with
      | zero => exact absurd (List.cons.inj hz).1.symm hb
      | succ z => exact ⟨z, (List.cons.inj hz).2⟩
    · next ha =>
      constructor
      · intro h
        obtain ⟨rfl, rfl⟩ := Prod.mk.inj (Option.some.inj h)
        exact ⟨ha, 0, rfl⟩
      · rintro ⟨-, z, hz⟩
        cases z with
        | zero =>
          obtain ⟨rfl, rfl⟩ := List.cons.inj hz
          rfl
        | succ z => exact absurd (List.cons.inj hz).1 ha

theorem freeNonzero_ne_zero (k : Nat) : freeNonzero k ≠ 0 := by
  have hlt := (Config.freeCoeff k).isLt
  intro h
  have hmod := congrArg BitVec.toNat h
  rw [freeNonzero, BitVec.toNat_ofNat, Nat.mod_eq_of_lt (by omega)] at hmod
  exact absurd hmod (Nat.succ_ne_zero _)

/-- A queue that holds a nonzero byte yields the first one, and the zeros before it leave no trace (R292). -/
theorem sampleNonzero_queued (src : CoeffSource) (z : Nat) (b : Byte) (rest : List Byte) (hb : b ≠ 0)
    (hq : src.queued = List.replicate z 0 ++ b :: rest) :
    sampleNonzero src = some (b, { src with queued := rest }) := by
  rw [sampleNonzero, (firstNonzero_eq_some_iff _ _ _).2 ⟨hb, z, hq⟩]

/-- All a draw can yield: the first nonzero byte queued, or a free one from a source that is not dead (R292). -/
theorem sampleNonzero_cases {src src' : CoeffSource} {b : Byte} (h : sampleNonzero src = some (b, src')) :
    (b ≠ 0 ∧ ∃ z rest, src.queued = List.replicate z 0 ++ b :: rest ∧ src' = { src with queued := rest }) ∨
    (src.dead = false ∧ b = freeNonzero src.drawn ∧ src' = { src with queued := [], drawn := src.drawn + 1 }) := by
  rw [sampleNonzero] at h
  split at h
  · next c rest hfirst =>
    obtain ⟨hb, z, hq⟩ := (firstNonzero_eq_some_iff _ _ _).1 hfirst
    obtain ⟨rfl, rfl⟩ := Prod.mk.inj (Option.some.inj h)
    exact .inl ⟨hb, z, rest, hq, rfl⟩
  · split at h
    · exact nomatch h
    · next hdead =>
      obtain ⟨rfl, rfl⟩ := Prod.mk.inj (Option.some.inj h)
      exact .inr ⟨eq_false_of_ne_true hdead, rfl, rfl⟩

theorem sampleNonzero_ne_zero {src src' : CoeffSource} {b : Byte} (h : sampleNonzero src = some (b, src')) :
    b ≠ 0 := by
  obtain ⟨hb, -⟩ | ⟨-, rfl, -⟩ := sampleNonzero_cases h
  · exact hb
  · exact freeNonzero_ne_zero _

theorem sampleNonzero_dead {src src' : CoeffSource} {b : Byte} (h : sampleNonzero src = some (b, src')) :
    src'.dead = src.dead := by
  obtain ⟨-, _, _, -, rfl⟩ | ⟨-, -, rfl⟩ := sampleNonzero_cases h <;> rfl

/-- A source that is not dead always yields a byte (R292). -/
theorem sampleNonzero_of_not_dead (src : CoeffSource) (h : src.dead = false) :
    ∃ b src', sampleNonzero src = some (b, src') := by
  rw [sampleNonzero]
  split
  · exact ⟨_, _, rfl⟩
  · rw [h]
    exact ⟨_, _, rfl⟩

/-- `k + 1` draws are one draw and `k` more (R293). -/
theorem drawCoeffs_succ_eq_some_iff (k : Nat) (src src' : CoeffSource) (c : List Byte) :
    drawCoeffs (k + 1) src = some (c, src') ↔
      ∃ b mid bs, sampleNonzero src = some (b, mid) ∧ drawCoeffs k mid = some (bs, src') ∧ c = b :: bs := by
  rw [drawCoeffs]
  constructor
  · intro h
    split at h
    · exact nomatch h
    · next b mid hfirst =>
      split at h
      · exact nomatch h
      · next bs last hrest =>
        obtain ⟨rfl, rfl⟩ := Prod.mk.inj (Option.some.inj h)
        exact ⟨b, mid, bs, hfirst, hrest, rfl⟩
  · rintro ⟨b, mid, bs, hfirst, hrest, rfl⟩
    simp only [hfirst, hrest]

theorem drawCoeffs_length_and_ne_zero (k : Nat) (src src' : CoeffSource) (c : List Byte)
    (h : drawCoeffs k src = some (c, src')) : c.length = k ∧ ∀ b ∈ c, b ≠ 0 := by
  induction k generalizing src c with
  | zero =>
    obtain ⟨rfl, -⟩ := Prod.mk.inj (Option.some.inj h)
    exact ⟨rfl, fun _ hb => nomatch hb⟩
  | succ k ih =>
    obtain ⟨b, mid, bs, hfirst, hrest, rfl⟩ := (drawCoeffs_succ_eq_some_iff k src src' c).1 h
    obtain ⟨hlen, hne⟩ := ih mid bs hrest
    exact ⟨congrArg (· + 1) hlen, List.forall_mem_cons.2 ⟨sampleNonzero_ne_zero hfirst, hne⟩⟩

theorem drawCoeffs_getD_ne_zero {k : Nat} {src src' : CoeffSource} {c : List Byte}
    (h : drawCoeffs k src = some (c, src')) (i : Nat) (hi : i < k) : c.getD i 0 ≠ 0 := by
  obtain ⟨hlen, hne⟩ := drawCoeffs_length_and_ne_zero k src src' c h
  rw [List.getD_eq_getElem _ _ (hlen ▸ hi)]
  exact hne _ (List.getElem_mem _)

theorem drawCoeffs_of_not_dead (k : Nat) (src : CoeffSource) (h : src.dead = false) :
    ∃ c src', drawCoeffs k src = some (c, src') := by
  induction k generalizing src with
  | zero => exact ⟨_, _, rfl⟩
  | succ k ih =>
    obtain ⟨b, mid, hfirst⟩ := sampleNonzero_of_not_dead src h
    obtain ⟨bs, src', hrest⟩ := ih mid ((sampleNonzero_dead hfirst).trans h)
    exact ⟨_, _, (drawCoeffs_succ_eq_some_iff ..).2 ⟨b, mid, bs, hfirst, hrest, rfl⟩⟩

/-- A dead source yields no more bytes than the nonzero ones in its queue (R295). -/
theorem le_countP_of_drawCoeffs_dead (k : Nat) (src src' : CoeffSource) (c : List Byte) (hdead : src.dead = true)
    (h : drawCoeffs k src = some (c, src')) : k ≤ src.queued.countP (fun b => b != 0) := by
  induction k generalizing src c with
  | zero => exact Nat.zero_le _
  | succ k ih =>
    obtain ⟨b, mid, bs, hfirst, hrest, rfl⟩ := (drawCoeffs_succ_eq_some_iff k src src' c).1 h
    obtain ⟨hb, z, rest, hq, rfl⟩ | ⟨halive, -⟩ := sampleNonzero_cases hfirst
    · have hle := ih { src with queued := rest } bs hdead hrest
      rw [hq, List.countP_append, List.countP_cons_of_pos (p := fun b => b != 0) (bne_iff_ne.2 hb)]
      exact Nat.le_add_left_of_le (Nat.succ_le_succ hle)
    · exact Bool.noConfusion (halive.symm.trans hdead)

/-- Settles O40: by induction on the number of draws, from what one draw can yield. -/
theorem drawsAreNonzeroAndSkipZeros : Obligations.DrawsAreNonzeroAndSkipZeros :=
  ⟨drawCoeffs_length_and_ne_zero, fun z b rest src => sampleNonzero_queued src z b rest, drawCoeffs_of_not_dead⟩

/-! ### ENCODE by its branches -/

/-- The header of an ENCODE names the generation in ARG0 (R290). -/
theorem setHeader_genIndex (s : State) (n bs : Nat) : s.setHeader s.genIndex n bs =
    { s with pktGen := s.arg0, pktNumBlocks := BitVec.ofNat 32 n, pktBlockSize := BitVec.ofNat 32 bs } := by
  rw [State.setHeader, State.genIndex, BitVec.ofNat_toNat, BitVec.setWidth_eq]

section
variable (s : State) (ses : Session) (hs : s.session = some ses)
include hs

/-- ENCODE in a session checks the generation, writes the header, and then looks at the rank (R290). -/
theorem exec_encode_eq : exec .encode s = .next (
    if ses.numGenerations ≤ s.genIndex then s.finish false
    else if (ses.gen s.genIndex).rank = 0 then
      (s.setHeader s.genIndex (ses.blocksOf s.genIndex) ses.blockSize).finish false
    else linComb ses s.genIndex (ses.gen s.genIndex).rank
      (s.setHeader s.genIndex (ses.blocksOf s.genIndex) ses.blockSize)) :=
  congrArg Host.Outcome.next (s.withSession_some _ ses hs)

theorem exec_encode_outOfRange (hg : ses.numGenerations ≤ s.genIndex) : exec .encode s = .next (s.finish false) := by
  rw [exec_encode_eq s ses hs, if_pos hg]

variable (hg : s.genIndex < ses.numGenerations)
include hg

theorem exec_encode_rank_zero (hr : (ses.gen s.genIndex).rank = 0) : exec .encode s =
    .next ((s.setHeader s.genIndex (ses.blocksOf s.genIndex) ses.blockSize).finish false) := by
  rw [exec_encode_eq s ses hs, if_neg (Nat.not_le_of_lt hg), if_pos hr]

theorem exec_encode_rank_pos (hr : 0 < (ses.gen s.genIndex).rank) : exec .encode s =
    .next (linComb ses s.genIndex (ses.gen s.genIndex).rank
      (s.setHeader s.genIndex (ses.blocksOf s.genIndex) ses.blockSize)) := by
  rw [exec_encode_eq s ses hs, if_neg (Nat.not_le_of_lt hg), if_neg hr.ne']

/-- With the coefficients it needs ENCODE stages the combinations and completes (R291). -/
theorem exec_encode_drawn (hr : 0 < (ses.gen s.genIndex).rank) (c : List Byte) (src : CoeffSource)
    (h : drawCoeffs (ses.gen s.genIndex).rank s.coeffs = some (c, src)) : exec .encode s =
      .next ((((s.setHeader s.genIndex (ses.blocksOf s.genIndex) ses.blockSize).setCoeffs src).setStaging
        (combinedData s.params.gfPoly ses s.blk s.genIndex c)
        (combinedCoeffs s.params.gfPoly ses s.genIndex c)).finish true) := by
  rw [exec_encode_rank_pos s ses hs hg hr, linComb, State.setHeader_coeffs, h]
  rfl

/-- Without them it never completes, and the source is used up (R295). -/
theorem exec_encode_hang (hr : 0 < (ses.gen s.genIndex).rank)
    (h : drawCoeffs (ses.gen s.genIndex).rank s.coeffs = none) : exec .encode s =
      .next ((s.setHeader s.genIndex (ses.blocksOf s.genIndex) ses.blockSize).setCoeffs
        { s.coeffs with queued := [] }).hang := by
  rw [exec_encode_rank_pos s ses hs hg hr, linComb, State.setHeader_coeffs, h]

end

/-- Settles O38: the first two branches of ENCODE. -/
theorem encodeWithNothingToEncode : Obligations.EncodeWithNothingToEncode := by
  refine fun s ses hs => ⟨exec_encode_outOfRange s ses hs, fun hg hr => ?_⟩
  rw [exec_encode_rank_zero s ses hs hg hr, setHeader_genIndex]
  rfl

/-! ### The linear combination -/

/-- The first term of a sum taken out. -/
theorem xorSum_succ_first (n : Nat) (f : Nat → Byte) : xorSum (n + 1) f = f 0 ^^^ xorSum n (fun i => f (i + 1)) := by
  induction n with
  | zero => simp [xorSum]
  | succ n ih => rw [xorSum, ih, xorSum, BitVec.xor_assoc]

/-- Rows accumulated from row i on keep the length, and column j holds what it held plus the combination of theirs. -/
theorem combineRows_spec (p : BitVec 9) (row : Nat → List Byte) (cs : List Byte) (i : Nat) (acc : List Byte)
    (hrows : ∀ k < cs.length, (row (i + k)).length = acc.length) :
    (combineRows p row cs i acc).length = acc.length ∧
    ∀ j, (combineRows p row cs i acc).getD j 0 =
      acc.getD j 0 ^^^ combination p cs.length (cs.getD · 0) (fun k b => (row (i + k)).getD b 0) j := by
  induction cs generalizing i acc with
  | nil => exact ⟨rfl, fun _ => BitVec.xor_zero.symm⟩
  | cons c cs ih =>
    have hfirst : acc.length = (row i).length := (hrows 0 (Nat.succ_pos _)).symm
    have hacc := length_rowAddmul p c _ _ hfirst
    obtain ⟨hlen, hcolumn⟩ := ih (i + 1) (rowAddmul p c acc (row i)) fun k hk => by
      rw [hacc, Nat.add_right_comm]
      exact hrows (k + 1) (Nat.succ_lt_succ hk)
    refine ⟨hlen.trans hacc, fun j => (hcolumn j).trans ?_⟩
    rw [getD_rowAddmul p c _ _ hfirst, BitVec.xor_assoc]
    simp only [combination, List.length_cons, xorSum_succ_first, Nat.add_right_comm i 1]
    rfl

/-- The combination of rows of n bytes, written from offset 0 on, takes the first n bytes and leaves the others. -/
theorem read_writeBytes_combineRows (p : BitVec 9) (row : Nat → List Byte) (cs : List Byte) (n : Nat) (m : Memory)
    (hm : m.wf = true) (hrows : ∀ k < cs.length, (row k).length = n) (b : Nat) :
    (m.writeBytes 0 (combineRows p row cs 0 (List.replicate n 0))).read b =
      if b < n then combination p cs.length (cs.getD · 0) (fun k b => (row k).getD b 0) b else m.read b := by
  obtain ⟨hlen, hcolumn⟩ := combineRows_spec p row cs 0 (List.replicate n 0) fun k hk => by
    rw [Nat.zero_add, hrows k hk, List.length_replicate]
  rw [List.length_replicate] at hlen
  simp only [Nat.zero_add] at hcolumn
  rw [Memory.read_writeBytes _ _ _ _ hm, hlen, hcolumn]
  simp

/-- Settles O39: the drawn coefficients combine the blocks of the accepted rows, and their matrix rows. -/
theorem encodeWritesTheLinearCombination : Obligations.EncodeWritesTheLinearCombination := by
  rintro s ses _ _ c src hs hdstg hcstg rfl hg rfl hpos hr hsq hdraw
  obtain ⟨hlen, -⟩ := drawCoeffs_length_and_ne_zero _ _ _ _ hdraw
  refine ⟨s.dstg.writeBytes 0 (combinedData s.params.gfPoly ses s.blk s.arg0.toNat c),
    s.cstg.writeBytes 0 (combinedCoeffs s.params.gfPoly ses s.arg0.toNat c), ?_, fun b => ?_, fun j => ?_⟩
  · rw [exec_encode_drawn s ses hs hg hpos c src hdraw, setHeader_genIndex]
    rfl
  · rw [combinedData, read_writeBytes_combineRows _ _ _ _ _ hdstg (fun k _ => ses.length_readBlk _ _ k), hlen]
    split
    · next hb => exact xorSum_congr _ _ _ fun i _ => congrArg (gfMul _ _) (ses.getD_readBlk _ _ _ _ hb)
    · rfl
  · rw [combinedCoeffs, read_writeBytes_combineRows _ _ _ _ _ hcstg, hlen]
    · rfl
    · exact fun k hk => hsq.length_row ((hlen ▸ hk).trans_le hr)

/-! ### What a packet is a combination of -/

/-- A combination of combinations of the original blocks is one of the original blocks (R294 item 1). -/
theorem combination_combination (p : BitVec 9) (hp : p ∈ Config.legalPolys) (r n : Nat) (u : Nat → Byte)
    (rows orig : Nat → Nat → Byte) (b : Nat) :
    combination p r u (fun i => combination p n (rows i) orig) b = combination p n (combination p r u rows) orig b := by
  induction r with
  | zero => exact (xorSum_eq_zero _ _ fun _ _ => gfMul_zero_left p _).symm
  | succ r ih =>
    calc combination p (r + 1) u (fun i => combination p n (rows i) orig) b
        = combination p r u (fun i => combination p n (rows i) orig) b ^^^
            gfMul p (u r) (combination p n (rows r) orig b) := rfl
      _ = combination p n (fun j => combination p r u rows j ^^^ gfMul p (u r) (rows r j)) orig b := by
          rw [ih, combination_addmul p hp]

/-- Settles O42: a source that is not dead yields the coefficients, each row is a combination of the original blocks, and
the staged coefficients combine the same rows as the staged data. -/
theorem encodedPacketsAreConsistent : Obligations.EncodedPacketsAreConsistent := by
  rintro s ses g orig hs hlegal ⟨-, ⟨hdstg, -⟩, hcstg, -⟩ ⟨hvalid, -, hgens⟩ hg hlt hpos halive hrows
  obtain ⟨⟨hr, hsq, -⟩, -⟩ := hgens g hlt
  obtain ⟨c, src, hdraw⟩ := drawCoeffs_of_not_dead (ses.gen g).rank s.coeffs halive
  obtain ⟨d, k, hexec, hd, hk⟩ :=
    encodeWritesTheLinearCombination s ses g _ c src hs hdstg hcstg hg hlt rfl hpos hr hsq hdraw
  obtain ⟨hbs, -, -, -, -, -, -, hblocks⟩ := session_numbers_fit s.params ses hlegal hvalid
  refine ⟨_, hexec, rfl, rfl, fun b hb => ?_, hg.symm, Nat.mod_eq_of_lt (hblocks g), Nat.mod_eq_of_lt hbs⟩
  calc d.read b
      = combination s.params.gfPoly (ses.gen g).rank (c.getD · 0)
          (fun i => combination s.params.gfPoly (ses.blocksOf g) (Matrix.entry (ses.gen g).matrix i) orig) b := by
        rw [hd b, if_pos hb]
        exact xorSum_congr _ _ _ fun i hi => by rw [hrows i hi b hb]
    _ = combination s.params.gfPoly (ses.blocksOf g) (combination s.params.gfPoly (ses.gen g).rank (c.getD · 0)
          (Matrix.entry (ses.gen g).matrix)) orig b := combination_combination _ hlegal.1 _ _ _ _ _ _
    _ = combination s.params.gfPoly (ses.blocksOf g) k.read orig b :=
        combination_congr _ _ _ _ _ _ fun j hj => by rw [hk j, if_pos hj]; rfl

/-- Only the first accepted row has a nonzero first entry. -/
theorem Gen.Ok.combination_first (p : BitVec 9) {n : Nat} {x : Gen} (hok : x.Ok n) (hpos : 0 < x.rank)
    (u : Nat → Byte) : combination p x.rank u (Matrix.entry x.matrix) 0 = gfMul p (u 0) (Matrix.entry x.matrix 0 0) := by
  refine xorSum_eq_single _ _ 0 hpos fun i hi hne => ?_
  rw [hok.entry_below_diagonal (hi.trans_le hok.1) (Nat.pos_of_ne_zero hne)]
  exact gfMul_zero_right p _

/-- The rows of the identity matrix combine to the coefficients themselves. -/
theorem combination_identity (p : BitVec 9) (hp : p ∈ Config.legalPolys) (n : Nat) (u : Nat → Byte) (j : Nat)
    (hj : j < n) : combination p n u (Matrix.entry (Matrix.identity n)) j = u j := by
  rw [combination, xorSum_eq_single n _ j hj fun i hi hij => ?_]
  · rw [Matrix.entry_identity n j j hj hj, if_pos rfl, gfMul_comm]
    exact gfMul_one_left p hp _
  · rw [Matrix.entry_identity n i j hi hj, if_neg hij]
    exact gfMul_zero_right p _

/-- Settles O43: the first coefficient is a product of two nonzero bytes; a decoded generation has the identity matrix. -/
theorem encodedCoefficientsAreNotAllZero : Obligations.EncodedCoefficientsAreNotAllZero := by
  rintro s t ses g c src hs hlegal ⟨-, ⟨hdstg, -⟩, hcstg, -⟩ hses hg hlt hpos hdraw ht
  have hblocks := hses.blocksOf_pos g
  obtain ⟨-, -, hgens⟩ := hses
  obtain ⟨hok, -⟩ := hgens g hlt
  have hcolumn := hok.combination_first s.params.gfPoly hpos (c.getD · 0)
  obtain ⟨hr, hsq, haccepted, -, hdecoded⟩ := hok
  obtain ⟨d, k, hexec, -, hk⟩ :=
    encodeWritesTheLinearCombination s ses g _ c src hs hdstg hcstg hg hlt rfl hpos hr hsq hdraw
  have hcoeff : ∀ j < ses.blocksOf g, k.read j =
      combination s.params.gfPoly (ses.gen g).rank (c.getD · 0) (Matrix.entry (ses.gen g).matrix) j :=
    fun j hj => (hk j).trans (if_pos hj)
  obtain rfl := Host.Outcome.next.inj (hexec.symm.trans ht)
  refine ⟨rfl, ?_, fun hd j hj => ?_⟩
  · show k.read 0 ≠ 0
    rw [hcoeff 0 hblocks, hcolumn, Ne, gfMul_eq_zero_iff _ hlegal.1, not_or]
    exact ⟨drawCoeffs_getD_ne_zero hdraw 0 hpos, (haccepted 0 hpos).2⟩
  · obtain ⟨hfull, hidentity⟩ := hdecoded hd
    have hread : k.read j = c.getD j 0 := by
      rw [hcoeff j hj, hfull, hidentity, combination_identity _ hlegal.1 _ _ j hj]
    exact ⟨hread, hread ▸ drawCoeffs_getD_ne_zero hdraw j (hfull ▸ hj)⟩

/-! ### The hang -/

/-- `t` is `s` but for OVR and the other agents' moves. -/
def State.SameCore (s t : State) : Prop :=
  t = { s with
    status := { s.status with ovr := t.status.ovr }
    host := t.host
    provider := t.provider
    turns := t.turns
    reads := t.reads }

theorem acknowledge_of_no_request (v : Word) (s : State) (h : s.status.flushReq = false) : acknowledge v s = s := by
  rw [acknowledge, if_neg (ne_true_of_eq_false h)]

/-- With BUSY = 1 a host write drops a command, answers a request or faults (R111, R380). -/
theorem hostWrite_busy_cases (w : Width) (a : Nat) (v : Word) {s t : State} (hbusy : s.status.busy = true)
    (h : hostWrite w a v s = .next t) : t = s.drop ∨ t = acknowledge v s := by
  obtain ⟨e, -, he⟩ | ⟨-, he⟩ | ⟨-, he⟩ | ⟨target, -, -, -, ⟨-, he⟩ | ⟨hidle, -⟩⟩ := hostWrite_cases w a v s
  · exact nomatch he.symm.trans h
  · exact .inl (Host.Outcome.next.inj (((issue_busy v s hbusy).symm.trans (he.symm.trans h)))).symm
  · exact .inr (Host.Outcome.next.inj (he.symm.trans h)).symm
  · exact nomatch he.symm.trans h
  · exact Bool.noConfusion (hidle.symm.trans hbusy)

theorem hostRead_cases (w : Width) (a : Nat) {s t : State} (h : hostRead w a s = .next t) :
    ∃ v, t = { s with reads := v :: s.reads } := by
  rw [hostRead] at h
  split at h
  · exact nomatch h
  · exact ⟨_, (Host.Outcome.next.inj h).symm⟩

section
variable {s t : State} (hbusy : s.status.busy = true) (hreq : s.status.flushReq = false)
include hbusy hreq

theorem hostWrite_sameCore (w : Width) (a : Nat) (v : Word) (h : hostWrite w a v s = .next t) : s.SameCore t := by
  obtain rfl | rfl := hostWrite_busy_cases w a v hbusy h
  · rfl
  · rw [acknowledge_of_no_request v s hreq]
    rfl

theorem hostStatement_sameCore (st : HostStmt) (h : hostStatement st s = .next t) : s.SameCore t := by
  cases st with
  | w32 a v => exact hostWrite_sameCore hbusy hreq _ _ _ h
  | w8 a v => exact hostWrite_sameCore hbusy hreq _ _ _ h
  | r32 a =>
    obtain ⟨v, rfl⟩ := hostRead_cases _ _ h
    rfl
  | r8 a =>
    obtain ⟨v, rfl⟩ := hostRead_cases _ _ h
    rfl
  | wait =>
    obtain rfl := Host.Outcome.next.inj ((hostPoll_eq s).symm.trans h)
    rfl

end

/-- Every step from the hang but a reset leaves the core in it (R384 item 2). -/
theorem step_drawWait_sameCore {s t : State} (hwait : s.activity = .drawWait) (hbusy : s.status.busy = true)
    (hreq : s.status.flushReq = false) (hturn : ∀ c, nextTurn s ≠ .reset c) (h : step s = .next t) :
    s.SameCore t := by
  cases hnext : nextTurn s with
  | host =>
    rw [step_host s hnext, hostMove] at h
    split at h
    · obtain rfl := Host.Outcome.next.inj h
      rfl
    · next st rest _ => exact hostStatement_sameCore (s := { popTurn s with host := rest }) hbusy hreq st h
  | provider =>
    obtain rfl := Host.Outcome.next.inj ((step_provider s hnext).symm.trans h)
    rw [providerMove]
    split
    · rfl
    · next v rest _ =>
      rw [acknowledge_of_no_request v { popTurn s with provider := rest } hreq]
      rfl
  | core =>
    obtain rfl := Host.Outcome.next.inj ((step_core s hnext).symm.trans h)
    rw [coreStep, show (popTurn s).activity = .drawWait from hwait]
    rfl
  | reset c => exact absurd hnext (hturn c)

/-- Settles O41: a dead source with too few nonzero bytes yields no r coefficients, so ENCODE hangs; from there a step
that is no reset changes OVR at most. -/
theorem encodeHangsOnADeadSource : Obligations.EncodeHangsOnADeadSource := by
  refine ⟨?_, fun s t hwait hbusy hreq h hturn => ?_⟩
  · rintro s ses _ hs rfl hg hpos hdead hfew
    have hnone : drawCoeffs (ses.gen s.genIndex).rank s.coeffs = none := by
      refine Option.eq_none_iff_forall_ne_some.2 fun ⟨c, src⟩ hdraw => ?_
      exact Nat.not_le_of_lt hfew (le_countP_of_drawCoeffs_dead _ _ src c hdead hdraw)
    refine ⟨_, exec_encode_hang s ses hs hg hpos hnone, rfl, rfl, rfl, rfl, rfl, rfl, ?_⟩
    rw [setHeader_genIndex]
    rfl
  · have hsame : s.SameCore t := step_drawWait_sameCore hwait hbusy hreq hturn h
    rw [State.SameCore] at hsame
    rw [hsame]
    exact ⟨hwait, hbusy, hreq, rfl, rfl, rfl, rfl⟩

end Sys2Proof.Machine
end

section
/-! SUPPORT. Proofs of the statements on spec/46_flush_query.md: the range of a flush (R312), FLUSH_GEN and FLUSH_ALL by what
each generation needs (R310, R311), the handshake with the provider (R314, R315), and the commands of R320-R322. -/

namespace Sys2Proof.Machine

/-! ### The range of a flush -/

/-- Data reaches into every block of the session (R210). -/
theorem Partition.mul_lt_of_lt_numBlocksOf (bs len k : Nat) (hb : 0 < bs) (hl : 0 < len) (hk : k < numBlocksOf bs len) :
    k * bs < len := by
  obtain ⟨-, -, hlast⟩ := Partition.numBlocksOf_bounds bs len hb hl
  exact (Nat.mul_le_mul_right bs (Nat.le_sub_one_of_lt hk)).trans_lt hlast

namespace Session

variable (ses : Session) (g : Nat)

/-- The range of a generation ends where its last block slot ends (R45, R312). -/
theorem flushStart_add_flushLength :
    ses.flushStart g + ses.flushLength g = (ses.blocksPerGen * g + ses.blocksOf g) * ses.blockSize := by
  rw [flushStart, flushLength, Nat.mul_comm g, Nat.add_mul]

variable (hb : 0 < ses.blockSize) (hl : 0 < ses.dataLength)
include hb hl

/-- The last block is partial exactly where the data ends before the session buffer does (R210). -/
theorem dataLength_lt_bufferSize_iff : ses.dataLength < ses.bufferSize ↔ ses.partialLastBlock = true := by
  have hgap : ses.bufferSize - ses.dataLength = (ses.blockSize - ses.dataLength % ses.blockSize) % ses.blockSize :=
    Partition.bufferSizeOf_sub _ _ hb hl
  rw [← Nat.sub_pos_iff_lt, hgap, partialLastBlock, bne_iff_ne]
  rcases Nat.eq_zero_or_pos (ses.dataLength % ses.blockSize) with hzero | hpos
  · simp [hzero]
  · have hlt := Nat.mod_lt ses.dataLength hb
    rw [Nat.mod_eq_of_lt (Nat.sub_lt hb hpos)]
    omega

variable (hbpg : 0 < ses.blocksPerGen) (hg : g < ses.numGenerations)
include hbpg hg

/-- Every generation holds data (R211). -/
theorem flushStart_lt_dataLength : ses.flushStart g < ses.dataLength := by
  have hpos := (Partition.genBlocksOf_bounds ses.blockSize ses.blocksPerGen ses.dataLength g hb hbpg hl).1
  have hfits := Partition.genBlocksOf_fits ses.blockSize ses.blocksPerGen ses.dataLength g hb hbpg hl hg
  rw [flushStart, Nat.mul_comm g]
  exact Partition.mul_lt_of_lt_numBlocksOf _ _ _ hb hl (by omega)

/-- The range of a generation lies in the session buffer (R211). -/
theorem flushStart_add_flushLength_le : ses.flushStart g + ses.flushLength g ≤ ses.bufferSize := by
  rw [flushStart_add_flushLength]
  exact Nat.mul_le_mul_right _ (Partition.genBlocksOf_fits _ _ _ g hb hbpg hl hg)

/-- The data ends within a generation's range exactly where it is the last one and the last block is partial (R312). -/
theorem dataLength_lt_flush_end_iff : ses.dataLength < ses.flushStart g + ses.flushLength g ↔
    g = ses.numGenerations - 1 ∧ ses.partialLastBlock = true := by
  have hfits := Partition.genBlocksOf_fits ses.blockSize ses.blocksPerGen ses.dataLength
  rw [flushStart_add_flushLength]
  rcases Nat.lt_or_ge (g + 1) ses.numGenerations with hinner | hlast
  · have hnext := hfits (g + 1) hb hbpg hl hinner
    have hpos := (Partition.genBlocksOf_bounds ses.blockSize ses.blocksPerGen ses.dataLength (g + 1) hb hbpg hl).1
    have hfull : ses.blocksOf g = ses.blocksPerGen := Partition.genBlocksOf_of_not_last _ _ _ g hinner
    have hend : (ses.blocksPerGen * g + ses.blocksOf g) * ses.blockSize < ses.dataLength := by
      rw [hfull, ← Nat.mul_add_one]
      exact Partition.mul_lt_of_lt_numBlocksOf _ _ _ hb hl (by omega)
    exact iff_of_false hend.le.not_gt (by omega)
  · have hcount : g = ses.numGenerations - 1 := by omega
    have hrest : ses.blocksOf g = ses.numBlocks - ses.blocksPerGen * g :=
      hcount ▸ Partition.genBlocksOf_last _ _ _ g hlast
    have hend : ses.blocksPerGen * g + ses.blocksOf g = ses.numBlocks := by
      have : ses.blocksPerGen * g + ses.blocksOf g ≤ ses.numBlocks := hfits g hb hbpg hl hg
      omega
    rw [hend, and_iff_right hcount]
    exact ses.dataLength_lt_bufferSize_iff hb hl

end Session

/-- Settles O45: a generation's range begins within the data and ends within the session buffer, and the data ends inside
it for a partial last block only. -/
theorem flushRangeCoversTheGeneration : Obligations.FlushRangeCoversTheGeneration := by
  intro p ses g hp hv hg
  obtain ⟨hb, hbpg, hl⟩ := validConfig_pos hv
  have hstart := ses.flushStart_lt_dataLength g hb hl hbpg hg
  have hend := ses.flushStart_add_flushLength_le g hb hl hbpg hg
  have hpartial := ses.dataLength_lt_flush_end_iff g hb hl hbpg hg
  have hlength : 0 < ses.flushLength g := Nat.mul_pos (Partition.genBlocksOf_bounds _ _ _ g hb hbpg hl).1 hb
  obtain ⟨-, -, -, -, -, hbuffer, -⟩ := session_numbers_fit p ses hp hv
  have hvalid : ses.flushValid g = min (ses.flushStart g + ses.flushLength g) ses.dataLength - ses.flushStart g := rfl
  refine ⟨rfl, rfl, hvalid, by omega, by omega, ?_, ?_, ?_, ?_⟩
  · rw [← hpartial]
    omega
  all_goals exact (BitVec.toNat_ofNat _ _).trans (Nat.mod_eq_of_lt (by omega))

/-! ### What one generation of a flush needs -/

section
variable (ses : Session) (g : Nat)

theorem flushVerdict_outOfRange (hs : Bool) (hg : ses.numGenerations ≤ g) : flushVerdict hs ses g = some false :=
  if_pos hg

theorem flushVerdict_not_decoded (hs : Bool) (hd : (ses.gen g).decoded = false) :
    flushVerdict hs ses g = some false := by
  rw [flushVerdict, hd]
  exact ite_self _

/-- Without a handshake the answer is the generation's decoded flag (R310). -/
theorem flushVerdict_no_handshake (hg : g < ses.numGenerations) :
    flushVerdict false ses g = some (ses.gen g).decoded := by
  rw [flushVerdict, if_neg hg.not_ge]
  cases (ses.gen g).decoded <;> rfl

/-- With a handshake a decoded generation is for the provider to answer (R310). -/
theorem flushVerdict_handshake (hg : g < ses.numGenerations) (hd : (ses.gen g).decoded = true) :
    flushVerdict true ses g = none := by
  rw [flushVerdict, if_neg hg.not_ge, hd]
  rfl

end

/-! ### FLUSH_GEN -/

/-- The request of a FLUSH_GEN names the generation in ARG0 (R314). -/
theorem requestFlush_genIndex (s : State) (ses : Session) (f : FlushCmd) : s.requestFlush ses f s.genIndex = { s with
    flGen := s.arg0
    flStart := BitVec.ofNat 32 (ses.flushStart s.genIndex)
    flLength := BitVec.ofNat 32 (ses.flushLength s.genIndex)
    flValid := BitVec.ofNat 32 (ses.flushValid s.genIndex)
    status := { s.status with flushReq := true, busy := true }
    activity := .flushWait f } := by
  rw [State.requestFlush, State.genIndex, BitVec.ofNat_toNat, BitVec.setWidth_eq]

section
variable (s : State) (ses : Session) (hs : s.session = some ses)
include hs

theorem exec_flushGen_finish (b : Bool) (hv : flushVerdict s.flushHs ses s.genIndex = some b) :
    exec .flushGen s = .next (s.finish b) := by
  rw [exec, execFlushGen, s.withSession_some _ ses hs, hv]

theorem exec_flushGen_request (hv : flushVerdict s.flushHs ses s.genIndex = none) :
    exec .flushGen s = .next (s.requestFlush ses (.gen s.genIndex) s.genIndex) := by
  rw [exec, execFlushGen, s.withSession_some _ ses hs, hv]

end

/-- Settles O44: the four cases of what the generation needs. -/
theorem flushGenFinishesOrRequests : Obligations.FlushGenFinishesOrRequests := by
  rintro s ses _ hs rfl
  refine ⟨fun hg => ?_, fun _ hd => ?_, fun hg hd hoff => ?_, fun hg hd hon => ?_⟩
  · exact exec_flushGen_finish s ses hs false (flushVerdict_outOfRange ses _ _ hg)
  · exact exec_flushGen_finish s ses hs false (flushVerdict_not_decoded ses _ _ hd)
  · refine exec_flushGen_finish s ses hs true ?_
    rw [State.flushHs, hoff, ← hd]
    exact flushVerdict_no_handshake ses _ hg
  · have hv : flushVerdict s.flushHs ses s.genIndex = none := by
      rw [State.flushHs, hon]
      exact flushVerdict_handshake ses _ hg hd
    rw [exec_flushGen_request s ses hs hv, requestFlush_genIndex]
    rfl

/-! ### FLUSH_ALL -/

section
variable (ses : Session) (s : State)

/-- Without a handshake FLUSH_ALL asks for no answer: the result takes in every decoded flag (R311). -/
theorem flushFrom_no_handshake (hoff : s.ctrl.getLsbD 0 = false) (k g : Nat) (ok : Bool)
    (hk : g + k ≤ ses.numGenerations) :
    flushFrom ses k g ok s = s.finish (ok && (List.range' g k).all fun h => (ses.gen h).decoded) := by
  induction k generalizing g ok with
  | zero =>
    rw [List.range'_zero, List.all_nil, Bool.and_true]
    rfl
  | succ k ih =>
    rw [flushFrom, State.flushHs, hoff, flushVerdict_no_handshake ses g (by omega)]
    dsimp only
    rw [ih (g + 1) _ (by omega), List.range'_succ, List.all_cons, Bool.and_assoc]

/-- FLUSH_ALL passes over generations that are not decoded, and any of them makes the result 0 (R311). -/
theorem flushFrom_skip (j k g : Nat) (ok : Bool) (hskip : ∀ h, g ≤ h → h < g + j → (ses.gen h).decoded = false) :
    flushFrom ses (j + k) g ok s = flushFrom ses k (g + j) (ok && decide (j = 0)) s := by
  induction j generalizing g ok with
  | zero => rw [Nat.zero_add, Nat.add_zero, decide_eq_true rfl, Bool.and_true]
  | succ j ih =>
    rw [Nat.add_right_comm, flushFrom, flushVerdict_not_decoded ses g _ (hskip g (by omega) (by omega))]
    dsimp only
    rw [ih (g + 1) _ fun h hlo hhi => hskip h (by omega) (by omega)]
    simp [Nat.add_comm, Nat.add_left_comm]

/-- With a handshake FLUSH_ALL goes on to the next decoded generation and requests it (R311, R314). -/
theorem flushFrom_request (hon : s.ctrl.getLsbD 0 = true) (g g' : Nat) (ok : Bool) (hle : g ≤ g')
    (hlt : g' < ses.numGenerations) (hd : (ses.gen g').decoded = true)
    (hskip : ∀ h, g ≤ h → h < g' → (ses.gen h).decoded = false) :
    flushFrom ses (ses.numGenerations - g) g ok s = s.requestFlush ses (.all g' (ok && decide (g' = g))) g' := by
  obtain ⟨j, rfl⟩ := Nat.exists_eq_add_of_le hle
  have hcount : ses.numGenerations - g = j + (ses.numGenerations - (g + j) - 1 + 1) := by omega
  rw [hcount, flushFrom_skip ses s j _ g ok hskip, flushFrom, State.flushHs, hon,
    flushVerdict_handshake ses _ hlt hd, decide_eq_decide.2 (Nat.add_eq_left (a := g) (b := j))]

/-- Where no decoded generation is left FLUSH_ALL finishes (R311). -/
theorem flushFrom_done (g : Nat) (ok : Bool) (hle : g ≤ ses.numGenerations)
    (hskip : ∀ h, g ≤ h → h < ses.numGenerations → (ses.gen h).decoded = false) :
    flushFrom ses (ses.numGenerations - g) g ok s = s.finish (ok && decide (g = ses.numGenerations)) := by
  have hrest := flushFrom_skip ses s (ses.numGenerations - g) 0 g ok fun h hlo hhi => hskip h hlo (by omega)
  have hzero : ses.numGenerations - g = 0 ↔ g = ses.numGenerations := by omega
  rw [Nat.add_zero, decide_eq_decide.2 hzero] at hrest
  exact hrest

theorem exec_flushAll_eq (hs : s.session = some ses) :
    exec .flushAll s = .next (flushFrom ses ses.numGenerations 0 true s) :=
  congrArg Host.Outcome.next (s.withSession_some _ ses hs)

end

/-! ### The answer to a request -/

/-- A request that is answered is over, and the core has its answer to continue from (R315). -/
theorem acknowledge_of_request (v : Word) (s : State) (f : FlushCmd) (hreq : s.status.flushReq = true)
    (hwait : s.activity = .flushWait f) :
    acknowledge v s = { s with status := { s.status with flushReq := false }, activity := .flushAcked f v } := by
  rw [acknowledge, if_pos hreq, hwait]

section
variable (v : Word) (s : State) (f : FlushCmd) (hacked : s.activity = .flushAcked f v)
include hacked

theorem coreStep_acked : coreStep s = continueFlush f v s := by
  rw [coreStep, hacked]

/-- An answer other than 0 is an I/O failure (R315, R346). -/
theorem coreStep_refused (hv : v ≠ 0) :
    coreStep s = State.raise .ioFail { s with activity := .idle, ioCode := v } := by
  rw [coreStep_acked v s f hacked]
  exact if_pos hv

end

/-- After the answer 0 a FLUSH_GEN is over (R310). -/
theorem coreStep_flushGen_acked (s : State) (g : Nat) (hacked : s.activity = .flushAcked (.gen g) 0) :
    coreStep s = State.finish true { s with activity := .idle } := by
  rw [coreStep_acked _ s _ hacked]
  rfl

/-- After the answer 0 a FLUSH_ALL goes on with the generation after the one it asked for (R311, R381). -/
theorem coreStep_flushAll_acked (s : State) (ses : Session) (g : Nat) (ok : Bool) (hs : s.session = some ses)
    (hacked : s.activity = .flushAcked (.all g ok) 0) :
    coreStep s = flushFrom ses (ses.numGenerations - (g + 1)) (g + 1) ok { s with activity := .idle } := by
  rw [coreStep_acked _ s _ hacked]
  exact State.withSession_some { s with activity := .idle } _ ses hs

/-- Settles O46: what FLUSH_ACK does with and without a request, and the core's step by the value answered. -/
theorem acknowledgementEndsTheRequest : Obligations.AcknowledgementEndsTheRequest :=
  ⟨acknowledge_of_no_request, acknowledge_of_request, coreStep_refused, coreStep_flushGen_acked⟩

/-- Settles O47: FLUSH_ALL is one loop, entered at generation 0, and again after the generation that was answered. -/
theorem flushAllVisitsGenerationsInOrder : Obligations.FlushAllVisitsGenerationsInOrder := by
  refine ⟨fun s ses hs hoff => ?_, fun s ses g hs hon hg hd hskip => ?_, fun s ses hs _ hskip => ?_,
    fun s ses g g' ok hs hon hacked hlt hg' hd hskip => ?_, fun s ses g ok hs _ hacked hg hskip => ?_⟩
  · rw [exec_flushAll_eq ses s hs, flushFrom_no_handshake ses s hoff _ 0 true (Nat.zero_add _).le, Bool.true_and,
      ← List.range_eq_range']
    rfl
  · rw [exec_flushAll_eq ses s hs]
    exact congrArg _ (flushFrom_request ses s hon 0 g true (Nat.zero_le g) hg hd fun h _ => hskip h)
  · rw [exec_flushAll_eq ses s hs, decide_eq_decide.2 eq_comm]
    exact congrArg _ (flushFrom_done ses s 0 true (Nat.zero_le _) fun h _ => hskip h)
  · rw [coreStep_flushAll_acked s ses g ok hs hacked]
    exact flushFrom_request ses { s with activity := .idle } hon (g + 1) g' ok hlt hg' hd hskip
  · rw [coreStep_flushAll_acked s ses g ok hs hacked]
    exact flushFrom_done ses _ (g + 1) ok hg hskip

/-! ### The wait on a request -/

/-- An access reaches a register where it is a 32-bit one at the register's offset (R81, R83). -/
theorem resolve_reg_iff (p : Config.Params) (w : Width) (a : Nat) (r : Reg) :
    resolve p w a = .ok (.reg r) ↔ w = .word ∧ a = r.offset := by
  constructor
  · intro h
    rcases Nat.lt_or_ge a windowSize with hlt | hge
    · obtain ⟨hw, -, _, ha, hr⟩ := (resolve_window p w a _ hlt).1 h
      obtain rfl := Target.reg.inj hr
      exact ⟨hw, ha.symm⟩
    · obtain ⟨-, _, -, -, hmem⟩ := (resolve_beyond_window p w a _ hge).1 h
      exact nomatch hmem
  · rintro ⟨rfl, rfl⟩
    exact resolve_reg p r

section
variable {s t : State} (hbusy : s.status.busy = true)
include hbusy

/-- With BUSY = 1 a host write that does not fault goes to CMD, which drops the command, or to FLUSH_ACK (R111, R380). -/
theorem hostWrite_busy_registers (w : Width) (a : Nat) (v : Word) (h : hostWrite w a v s = .next t) :
    w = .word ∧ (a = Reg.cmd.offset ∧ t = s.drop ∨ a = Reg.flushAck.offset ∧ t = acknowledge v s) := by
  obtain ⟨e, -, he⟩ | ⟨hr, he⟩ | ⟨hr, he⟩ | ⟨target, -, -, -, ⟨-, he⟩ | ⟨hidle, -⟩⟩ := hostWrite_cases w a v s
  · exact nomatch he.symm.trans h
  · obtain ⟨hw, ha⟩ := (resolve_reg_iff ..).1 hr
    exact ⟨hw, .inl ⟨ha, Host.Outcome.next.inj ((he.symm.trans h).symm.trans (issue_busy v s hbusy))⟩⟩
  · obtain ⟨hw, ha⟩ := (resolve_reg_iff ..).1 hr
    exact ⟨hw, .inr ⟨ha, (Host.Outcome.next.inj (he.symm.trans h)).symm⟩⟩
  · exact nomatch he.symm.trans h
  · exact Bool.noConfusion (hidle.symm.trans hbusy)

/-- All a host statement can do with BUSY = 1: drop a command, answer a request, or change the host's own lists only. -/
theorem hostStatement_busy_cases (st : HostStmt) (h : hostStatement st s = .next t) :
    (∃ v, st = .w32 0x020 v ∧ t = s.drop) ∨ (∃ v, st = .w32 0x0B0 v ∧ t = acknowledge v s) ∨
      ∃ host reads, t = { s with host := host, reads := reads } := by
  cases st with
  | w32 a v =>
    obtain ⟨-, ⟨ha, rfl⟩ | ⟨ha, rfl⟩⟩ := hostWrite_busy_registers hbusy _ _ _ h
    · obtain rfl : a = 0x020 := BitVec.eq_of_toNat_eq ha
      exact .inl ⟨v, rfl, rfl⟩
    · obtain rfl : a = 0x0B0 := BitVec.eq_of_toNat_eq ha
      exact .inr (.inl ⟨v, rfl, rfl⟩)
  | w8 a v => exact nomatch (hostWrite_busy_registers hbusy _ _ _ h).1
  | r32 a =>
    obtain ⟨v, rfl⟩ := hostRead_cases _ _ h
    exact .inr (.inr ⟨_, _, rfl⟩)
  | r8 a =>
    obtain ⟨v, rfl⟩ := hostRead_cases _ _ h
    exact .inr (.inr ⟨_, _, rfl⟩)
  | wait =>
    obtain rfl := Host.Outcome.next.inj ((hostPoll_eq s).symm.trans h)
    exact .inr (.inr ⟨_, _, rfl⟩)

end

section
variable {s : State} {f : FlushCmd} (hwait : s.activity = .flushWait f) (hreq : s.status.flushReq = true)
include hwait hreq

/-- The provider's answer ends the request (R315). -/
theorem step_provider_answers (v : Word) (rest : List Word) (hturn : nextTurn s = .provider)
    (hprovider : s.provider = v :: rest) : step s = .next { s with
      activity := .flushAcked f v
      status := { s.status with flushReq := false }
      provider := rest
      turns := s.turns.tail } := by
  rw [step_provider s hturn, providerMove, show (popTurn s).provider = v :: rest from hprovider]
  exact congrArg _ (acknowledge_of_request v { popTurn s with provider := rest } f hreq hwait)

/-- A host statement that writes FLUSH_ACK ends the request (R315). -/
theorem step_host_answers (v : Word) (rest : List HostStmt) (hturn : nextTurn s = .host)
    (hhost : s.host = .w32 0x0B0 v :: rest) : step s = .next { s with
      activity := .flushAcked f v
      status := { s.status with flushReq := false }
      host := rest
      turns := s.turns.tail } := by
  rw [step_host s hturn, hostMove, show (popTurn s).host = .w32 0x0B0 v :: rest from hhost]
  refine (hostWrite_flushAck v { popTurn s with host := rest }).trans ?_
  exact congrArg _ (acknowledge_of_request v { popTurn s with host := rest } f hreq hwait)

end

/-- Settles O48: a FLUSH_ACK write by either writer ends the request; with BUSY = 1 any other host statement drops a
command at most, and the provider without an answer and the core do nothing. -/
theorem flushWaitFreezesTheCore : Obligations.FlushWaitFreezesTheCore := by
  refine fun s f hwait hbusy hreq => ⟨step_provider_answers hwait hreq, step_host_answers hwait hreq, ?_⟩
  intro t h hreset hprovider hhost
  cases hturn : nextTurn s with
  | host =>
    rw [step_host s hturn, hostMove] at h
    split at h
    · obtain rfl := Host.Outcome.next.inj h
      exact ⟨rfl, .inl rfl⟩
    · next st rest hlist =>
      obtain ⟨v, rfl, rfl⟩ | ⟨v, rfl, -⟩ | ⟨host, reads, rfl⟩ :=
        hostStatement_busy_cases (s := { popTurn s with host := rest }) hbusy st h
      · exact ⟨rfl, .inr ⟨rfl, rfl, v, rest, hlist⟩⟩
      · exact absurd ⟨hturn, v, rest, hlist⟩ hhost
      · exact ⟨rfl, .inl rfl⟩
  | provider =>
    have hsilent : s.provider = [] := by_contra fun hanswer => hprovider ⟨hturn, hanswer⟩
    obtain rfl := Host.Outcome.next.inj ((step_provider s hturn).symm.trans h)
    rw [providerMove, show (popTurn s).provider = [] from hsilent]
    exact ⟨rfl, .inl rfl⟩
  | core =>
    obtain rfl := Host.Outcome.next.inj ((step_core s hturn).symm.trans h)
    rw [coreStep, show (popTurn s).activity = .flushWait f from hwait]
    exact ⟨rfl, .inl rfl⟩
  | reset c => exact absurd hturn (hreset c)

/-! ### GEN_QUERY and housekeeping -/

/-- Q_FLAGS at the bits of its fields (R47). -/
theorem query_flag_bits (ses : Session) (g : Nat) : (ses.queryFlags g).getLsbD 1 = (ses.gen g).decoded ∧
    (ses.queryFlags g).getLsbD 0 = ses.complete g := by
  simp only [Session.queryFlags, BitVec.getLsbD_append]
  simp

/-- A query names the generation in ARG0 (R320). -/
theorem setQuery_genIndex (s : State) (ses : Session) : s.setQuery ses s.genIndex = { s with
    qGen := s.arg0
    qNumBlocks := BitVec.ofNat 32 (ses.blocksOf s.genIndex)
    qRank := BitVec.ofNat 32 (ses.gen s.genIndex).rank
    qFlags := ses.queryFlags s.genIndex } := by
  rw [State.setQuery, State.genIndex, BitVec.ofNat_toNat, BitVec.setWidth_eq]

section
variable (s : State) (ses : Session) (hs : s.session = some ses)
include hs

theorem exec_genQuery_eq : exec .genQuery s = .next (
    if ses.numGenerations ≤ s.genIndex then s.finish false else (s.setQuery ses s.genIndex).finish true) :=
  congrArg Host.Outcome.next (s.withSession_some _ ses hs)

theorem exec_genQuery_outOfRange (hg : ses.numGenerations ≤ s.genIndex) :
    exec .genQuery s = .next (s.finish false) := by
  rw [exec_genQuery_eq s ses hs, if_pos hg]

theorem exec_genQuery_inRange (hg : s.genIndex < ses.numGenerations) :
    exec .genQuery s = .next ((s.setQuery ses s.genIndex).finish true) := by
  rw [exec_genQuery_eq s ses hs, if_neg hg.not_ge]

end

/-- Settles O49: the range check, and the query registers with the flags bit by bit. -/
theorem genQueryReadsOutOneGeneration : Obligations.GenQueryReadsOutOneGeneration := by
  rintro s ses _ hs rfl
  refine ⟨exec_genQuery_outOfRange s ses hs, fun hg => ?_⟩
  obtain ⟨hdecoded, hcomplete⟩ := query_flag_bits ses s.genIndex
  refine ⟨ses.queryFlags s.genIndex, ?_, hdecoded, hcomplete, queryFlags_lt ses _⟩
  rw [exec_genQuery_inRange s ses hs hg, setQuery_genIndex]
  rfl

/-- Settles O50: both commands are `finish(1)`, CLR_STATUS after the sticky bits are cleared. -/
theorem nopAndClrStatusWriteStatusOnly : Obligations.NopAndClrStatusWriteStatusOnly :=
  fun _ => ⟨rfl, rfl⟩

end Sys2Proof.Machine
end

section
/-! SUPPORT. Proofs of the statements on spec/60_exceptions.md and spec/70_reset_and_hazards.md: which commands raise
NOT_CONFIGURED (R342), host writes while BUSY = 1 (R380), and the state after a reset (R370). -/

namespace Sys2Proof.Machine

/-! ### NOT_CONFIGURED -/

theorem Err.code_ne_notConfigured (e : Err) (h : e ≠ .notConfigured) : e.code ≠ Err.notConfigured.code := by
  cases e with
  | notConfigured => exact absurd rfl h
  | illegalCmd | badConfig | range | ioFail => decide

/-- ERR is not the code of NOT_CONFIGURED (R342). -/
def State.NoSessionError (t : State) : Prop := t.status.err ≠ Err.notConfigured.code

theorem finish_noSessionError (b : Bool) (s : State) : (s.finish b).NoSessionError :=
  show (0 : BitVec 4) ≠ 2 by decide

theorem raise_noSessionError (e : Err) (s : State) (h : e ≠ .notConfigured) : (s.raise e).NoSessionError :=
  e.code_ne_notConfigured h

/-- The vector commands in place finish or raise RANGE (R180). -/
theorem vectorInPlace_noSessionError (f : Byte → Byte) (s : State) :
    ∃ t, vectorInPlace f s = .next t ∧ t.NoSessionError := by
  refine ⟨_, rfl, ?_⟩
  split
  · exact finish_noSessionError true _
  · exact raise_noSessionError .range s nofun

/-- The fused multiply-adds finish or raise RANGE (R180, R186). -/
theorem vectorAddmul_noSessionError (c : Byte) (s : State) :
    ∃ t, vectorAddmul c s = .next t ∧ t.NoSessionError := by
  have hrange := raise_noSessionError .range s nofun
  refine ⟨_, rfl, ?_⟩
  split
  · exact hrange
  · split
    · exact hrange
    · split
      · exact finish_noSessionError true s
      · exact finish_noSessionError true _

/-- A configuration finishes or raises BAD_CONFIG (R212, R213). -/
theorem configure_noSessionError (mode : Mode) (s : State) :
    ∃ t, configure mode s = .next t ∧ t.NoSessionError := by
  refine ⟨_, rfl, ?_⟩
  split
  · exact finish_noSessionError true _
  · exact raise_noSessionError .badConfig s nofun

/-- Settles O9: the session commands go through `withSession`; the others finish, or raise RANGE or BAD_CONFIG. -/
theorem sessionCommandsNeedASession : Obligations.SessionCommandsNeedASession := by
  constructor
  · intro s hs
    have hraise (k : Session → State) : (.next (s.withSession k) : Result) = .next (s.raise .notConfigured) :=
      congrArg _ (s.withSession_none k hs)
    exact ⟨hraise _, hraise _, hraise _, hraise _, hraise _, hraise _, hraise _⟩
  · intro i s hstore hdecodeGen hdecodeAll hencode hflushGen hflushAll hgenQuery
    cases i with
    | store | decodeGen | decodeAll | encode | flushGen | flushAll | genQuery => contradiction
    | nop | clrStatus | gfAdd | gfSub | gfMul | gfDiv => exact ⟨_, rfl, finish_noSessionError true _⟩
    | vScale | vAdds | vSubs => exact vectorInPlace_noSessionError _ s
    | vAddmul c | vSubmul c => exact vectorAddmul_noSessionError c s
    | cfgEncoder => exact configure_noSessionError .encoder s
    | cfgDecoder => exact configure_noSessionError .decoder s

/-! ### Host writes while BUSY = 1 -/

/-- Settles O55: CMD and FLUSH_ACK are reached at their offsets only, and any other legal write is the hazard. -/
theorem otherWritesWhileBusyFault : Obligations.OtherWritesWhileBusyFault := by
  intro w a v s t hbusy hr
  refine ⟨?_, ?_, fun hcmd hack => ?_⟩
  · rintro rfl
    obtain ⟨rfl, rfl⟩ := (resolve_reg_iff ..).1 hr
    exact (hostWrite_cmd v s).trans (issue_busy v s hbusy)
  · rintro rfl
    obtain ⟨rfl, rfl⟩ := (resolve_reg_iff ..).1 hr
    exact hostWrite_flushAck v s
  · obtain ⟨e, he, -⟩ | ⟨hc, -⟩ | ⟨ha, -⟩ | ⟨_, -, -, -, ⟨-, hfault⟩ | ⟨hidle, -⟩⟩ := hostWrite_cases w a v s
    · exact nomatch he.symm.trans hr
    · exact absurd (Except.ok.inj (hr.symm.trans hc)) hcmd
    · exact absurd (Except.ok.inj (hr.symm.trans ha)) hack
    · exact hfault
    · exact Bool.noConfusion (hidle.symm.trans hbusy)

/-! ### Memory contents after a reset -/

/-- A memory's first n bytes as cells: byte a is `f a`. -/
def cellsOf (f : Nat → Byte) (n : Nat) : List Host.Cell := (List.range n).map fun a => (a, f a)

theorem cellsOf_succ (f : Nat → Byte) (n : Nat) : cellsOf f (n + 1) = cellsOf f n ++ [(n, f n)] := by
  rw [cellsOf, List.range_succ, List.map_append]
  rfl

namespace Memory

/-- A cell within the size is written over the cells before it. -/
theorem ofCells_append_cell (size : Nat) (cells : List Host.Cell) (c : Host.Cell) (h : c.1 < size) :
    ofCells size (cells ++ [c]) = (ofCells size cells).write c.1 c.2 := by
  rw [ofCells, List.foldl_append]
  exact if_pos h

theorem read_ofCells_cellsOf (size : Nat) (f : Nat → Byte) (n : Nat) (hn : n ≤ size) (a : Nat) (ha : a < n) :
    (ofCells size (cellsOf f n)).read a = f a := by
  induction n with
  | zero => exact absurd ha (Nat.not_lt_zero a)
  | succ n ih =>
    obtain ⟨hwf, -⟩ := ofCells_ok size (cellsOf f n)
    rw [cellsOf_succ, ofCells_append_cell size _ (n, f n) hn, read_write _ _ _ _ hwf]
    split
    · next heq => rw [heq]
    · next hne => exact ih (by omega) (by omega)

end Memory

/-! ### Registers after a reset -/

/-- STATUS reads 0x00000000 after a reset (R370). -/
theorem toWord_reset : Status.reset.toWord = 0 := by decide

/-- Settles O56: every register is a field that a reset puts at 0, or a function of the session that it ends, but for
the identification and the parameters; contents that list every byte leave any memories. -/
theorem resetLeavesTheResetState : Obligations.ResetLeavesTheResetState := by
  constructor
  · rintro c s _ ⟨⟩
    refine ⟨rfl, rfl, rfl, rfl, rfl, rfl, capGfWord_toNat s.params, fun r => ?_, rfl, rfl, rfl, rfl⟩
    intro hid hversion hblockSize hgenBlocks hgenerations hbuffer hgf
    cases r with
    | id | version | capMaxBlockSize | capMaxGenBlocks | capMaxGenerations | capMaxBuffer | capGf => contradiction
    | status => exact toWord_reset
    | _ => rfl
  · intro f g h s
    have hread (size : Nat) (f : Nat → Byte) := Memory.read_ofCells_cellsOf size f size le_rfl
    exact ⟨⟨cellsOf f s.params.maxBuffer, cellsOf g s.params.maxBlockSize, cellsOf h s.params.maxGenBlocks⟩, _, rfl,
      hread _ f, hread _ g, hread _ h⟩

/-! ### The invariant after a reset -/

/-- The reference parameters are in the ranges of R8 and R9. -/
theorem reference_legal : Config.reference.Legal := by decide

/-- Settles O57: no memory lists a byte, no register is set, and there is neither a command in flight nor a session. -/
theorem resetMeetsTheInvariant : Obligations.ResetMeetsTheInvariant := by
  have hmemories : State.reset.MemoriesOk := by decide
  have hregisters : State.reset.RegistersOk := by decide
  exact ⟨reference_legal, hmemories, hregisters, rfl, fun _ hses => nomatch hses⟩

end Sys2Proof.Machine
end
